-- ==== Sys2Proof/Word.lean ====
section
/-! DEFINITION. The words of the part: bytes, ticks, the sixteen-line registers, and the numbers that name slots and lines. -/

namespace Sys2Proof

/-- One byte of the register window (D0 to D7). -/
abbrev Byte := BitVec 8

/-- A tick value: unsigned, 32 bits, wrapping modulo 2^32 (section 0.4, R1). -/
abbrev Tick := BitVec 32

/-- One bit per output line, line 0 in the least significant bit (R69, R179). -/
abbrev Lines := BitVec 16

/-- The number of an action slot, 0 to 63. -/
abbrev SlotNo := Fin 64

/-- The number of an output line, 0 to 15. -/
abbrev LineNo := Fin 16

/-- The number of a capture line, 0 to 7. -/
abbrev CapNo := Fin 8

/-- The number of a frame slot, 0 to 7. -/
abbrev FrameNo := Fin 8

/-- The number of a group, 0 to 7. -/
abbrev GroupNo := Fin 8

/-- Sixteen bytes: the staging area, its snapshot, the result window (R141, R144). -/
abbrev Bytes16 := Vector Byte 16

end Sys2Proof
end

