-- ==== Sys2Proof/Config.lean ====
section
/-! DEFINITION. What the implementation of the part fixes: capacities, limits and identifiers, each from the rule named.
The one free value is a point on which the rules differ. -/

namespace Sys2Proof.Config

/-- ID at 0x00 (R179). -/
def partId : Byte := 0x5C

/-- REV at 0x01 (R179). -/
def revision : Byte := 0x10

/-- The horizon on either side of TICK, 2^30 ticks (R6, R7, R32, R133). -/
def horizon : Nat := 1073741824

/-- A park offset is below 2^24 (R32, check 11). -/
def parkOffsetBound : Nat := 16777216

/-- The smallest PSEL (R2). -/
def pselMin : Nat := 4

/-- The largest PSEL (R2). -/
def pselMax : Nat := 12

/-- Capacity of the notice queue (R165). -/
def noticeCapacity : Nat := 16

/-- Capacity of the capture log (R94). -/
def captureCapacity : Nat := 32

/-- Capacity of the send queue (R112). -/
def sendCapacity : Nat := 8

/-- The greatest length of a frame in bytes (R108). -/
def frameMax : Nat := 12

/-- The counts NLOST and CLOST stop at 255 (R95, R166), as the details of MISSED, LATE and RECOVERED do (R67, R137). -/
def byteMax : Nat := 255

/-- Occurrences and the drain count stop at 65535 (R37, R136). -/
def countMax : Nat := 65535

/-- CLKIN periods of one firing, diversion or drain step (R49, R134, R136). -/
def firingPeriods : Nat := 2

/-- FREE VALUE (log 27): a bus read while the part is held in reset drives D0 to D7. R139 and R177 say that such reads return the reset values;
R186 says that the strobes are ignored then and D0 to D7 are high impedance. -/
opaque readsInReset : Bool

end Sys2Proof.Config
end

