-- ==== Sys2Proof/Syntax.lean ====
section
/-! DEFINITION. The commands of the part: one constructor of `Instr` for each row of spec/opcode_table.json. -/

namespace Sys2Proof

/-- The two steps of a host command that the sender gives (R141, R143): the CMD write that starts it, and the action step at the
block that owns the state concerned. Its third step is COMMAND_COMPLETION (R144). Other events may come between them (R162). -/
inductive CommandStep where
  | write
  | action
deriving DecidableEq, Repr

/-- The levels of the input pins that a reset release reads (R12, R107, R129, R140). -/
structure PinLevels where
  /-- HALT# is driven low. -/
  haltAsserted : Bool
  /-- The level of SYNC. -/
  sync : Bool
  /-- The levels of CAP0 to CAP7, CAP0 in bit 0. -/
  cap : Byte
deriving DecidableEq, Repr

/-- The two steps of the RESET command (R141, R161): its action step ends with a reset release, which reads the pins. -/
inductive ResetStep where
  | write
  | action (pins : PinLevels)
deriving DecidableEq, Repr

/-- A tick event at the time base, with the levels of CAP0 to CAP7 at that CLKIN edge (R1, R83), and the step in which the capture
block takes the oldest tick event delivered to it (R84, R87, R89: the two may have other events between them). -/
inductive TickStep where
  | advance (samples : Byte)
  | sample
deriving DecidableEq, Repr

/-- The blocks that raise notices (section 9.1): the firing unit, scheduler control, the time base, the command engine (RESUME_GROUP's DONE,
R157), the output block and the frame channel. -/
inductive NoticeSource where
  | firing
  | scheduler
  | timeBase
  | engine
  | output
  | frame
deriving DecidableEq, Repr

/-- The levels of the bus strobes CS#, RD# and WR# in one bus access (R177, R186), each `true` where the pin is asserted (low). -/
structure Strobes where
  cs : Bool
  rd : Bool
  wr : Bool
deriving DecidableEq, Repr

/-- CS# with WR#: a write (R177). -/
def Strobes.write : Strobes := { cs := true, rd := false, wr := true }

/-- CS# with RD#: a read (R177). -/
def Strobes.read : Strobes := { cs := true, rd := true, wr := false }

/-- The six sticky interrupt flags (R171). -/
inductive StickyFlag where
  | cmdDone
  | cmdRefused
  | noticeLost
  | captureLost
  | halt
  | serialIdle
deriving DecidableEq, Repr

/-- The two bytes of LMOD, SAFE and DLVL: lines 0 to 7 and lines 8 to 15 (R69, R179). -/
inductive LineHalf where
  | low
  | high
deriving DecidableEq, Repr

/-- The commands, in the order of spec/opcode_table.json. -/
inductive Instr where
  /-- TICK_EVENT (R1). -/
  | tickEvent (part : TickStep)
  /-- EDGE_ACCEPTED (R85). -/
  | edgeAccepted
  /-- FIRING (R48). -/
  | firing
  /-- DIVERSION (R134). -/
  | diversion
  /-- DRAIN_STEP (R136). -/
  | drainStep
  /-- DRAIN_END (R137). -/
  | drainEnd
  /-- RETURN_TO_IDLE (R48). -/
  | returnToIdle
  /-- EDGE_REQUEST (R72). -/
  | edgeRequest
  /-- RESTORE_REQUEST (R75). -/
  | restoreRequest
  /-- SEND_REQUEST (R111). -/
  | sendRequest
  /-- GATE_REQUEST (R97). -/
  | gateRequest
  /-- WAKE_REQUEST (R175). -/
  | wakeRequest
  /-- PARK_LIST_APPEND (R99), of the slot handed over. -/
  | parkListAppend (slot : SlotNo)
  /-- NOTICE_HANDOFF (R165), the oldest of the source. -/
  | noticeHandoff (source : NoticeSource)
  /-- FLAG_SET_REQUEST (R171), a request for the flag. -/
  | flagSetRequest (flag : StickyFlag)
  /-- CAPTURE_TIME_JUMP (R88). -/
  | captureTimeJump
  /-- EDGE_MARK_CLEAR (R74). -/
  | edgeMarkClear
  /-- HALT_REQUEST (R118). -/
  | haltRequest
  /-- END_REQUEST (R120). -/
  | endRequest
  /-- SHIFTER_START (R115). -/
  | shifterStart
  /-- FRAME_END (R116). -/
  | frameEnd
  /-- ABORTED_FRAME_END (R119). -/
  | abortedFrameEnd
  /-- GAP_END (R116). -/
  | gapEnd
  /-- SYNC_EDGE (R12, R14): a sample of SYNC at this level, which is the rising edge when the detector holds 0 and the level is 1 (log 14);
  the plain row is the sample at 1. -/
  | syncEdge (level : Bool := true)
  /-- HALT_ASSERTION (R130). -/
  | haltAssertion
  /-- HALT_RELEASE (R132). -/
  | haltRelease
  /-- POWER_ON_RESET (R139). -/
  | powerOnReset
  /-- RST_PIN_RESET (R139). -/
  | rstPinReset
  /-- RESET_RELEASE (R140), with the levels of the pins. -/
  | resetRelease (pins : PinLevels)
  /-- POST, code 0x10 (R148). -/
  | post (part : CommandStep)
  /-- CANCEL, code 0x11 (R150). -/
  | cancel (part : CommandStep)
  /-- AMEND, code 0x12 (R153). -/
  | amend (part : CommandStep)
  /-- READ_SLOT, code 0x13 (R159). -/
  | readSlot (part : CommandStep)
  /-- CANCEL_GROUP, code 0x18 (R151). -/
  | cancelGroup (part : CommandStep)
  /-- SUSPEND_GROUP, code 0x19 (R156). -/
  | suspendGroup (part : CommandStep)
  /-- RESUME_GROUP, code 0x1A (R157). -/
  | resumeGroup (part : CommandStep)
  /-- QUERY, code 0x1F (R160). -/
  | query (part : CommandStep)
  /-- LOAD_FRAME, code 0x20 (R109). -/
  | loadFrame (part : CommandStep)
  /-- CAP_SETUP, code 0x28 (R90). -/
  | capSetup (part : CommandStep)
  /-- SET_TIME, code 0x30 (R9). -/
  | setTime (part : CommandStep)
  /-- ARM_SYNC, code 0x31 (R13). -/
  | armSync (part : CommandStep)
  /-- START, code 0x38 (R124). -/
  | start (part : CommandStep)
  /-- STOP, code 0x39 (R126). -/
  | stop (part : CommandStep)
  /-- CLEAR, code 0x3A (R128). -/
  | clear (part : CommandStep)
  /-- RESET, code 0x3F (R161). -/
  | reset (part : ResetStep)
  /-- BAD_CMD (R143): a CMD write of a code that names no command. -/
  | badCmd (code : Byte)
  /-- CMD_WRITE_REFUSED (R142): a CMD write that finds the engine BUSY. -/
  | cmdWriteRefused (code : Byte)
  /-- COMMAND_COMPLETION (R144). -/
  | commandCompletion
  /-- TCK0_READ (R16). -/
  | tck0Read
  /-- TCFG_WRITE (R2). -/
  | tcfgWrite (value : Byte)
  /-- BDIV_WRITE (R113). -/
  | bdivWrite (value : Byte)
  /-- SCFG_WRITE (R113). -/
  | scfgWrite (value : Byte)
  /-- NTHR_WRITE (R172). -/
  | nthrWrite (value : Byte)
  /-- CTHR_WRITE (R172). -/
  | cthrWrite (value : Byte)
  /-- NPOP (R168), whatever byte it carries. -/
  | npop
  /-- CPOP (R170), whatever byte it carries. -/
  | cpop
  /-- NLOST_CLEAR (R169): a write to NLOST. -/
  | nlostClear (value : Byte)
  /-- CLOST_CLEAR (R170): a write to CLOST. -/
  | clostClear (value : Byte)
  /-- IFLG_CLEAR (R171): a write to IFLG. -/
  | iflgClear (value : Byte)
  /-- IEN_WRITE (R174). -/
  | ienWrite (value : Byte)
  /-- WAKE_CLEAR (R175): a write to WAKE. -/
  | wakeClear (value : Byte)
  /-- LVLREF_CLEAR (R79, R180): a write to STAT. -/
  | lvlrefClear (value : Byte)
  /-- LMOD_WRITE (R70). -/
  | lmodWrite (half : LineHalf) (value : Byte)
  /-- DLVL_WRITE (R71, R79). -/
  | dlvlWrite (half : LineHalf) (value : Byte)
  /-- SAFE_WRITE (R80). -/
  | safeWrite (half : LineHalf) (value : Byte)
  /-- REGISTER_WRITE (R177, R178): a bus access to an address of the window, with the byte that the host puts on D0 to D7. The strobes make it
a write, and as CS#, RD# and WR# may also stand, a read or neither (log 27). -/
  | registerWrite (address : BitVec 7) (value : Byte) (strobes : Strobes := .write)
  /-- HALF_BIT_END (R115). -/
  | halfBitEnd
deriving DecidableEq, Repr

end Sys2Proof
end

