-- ==== Sys2Proof/WellFormed.lean ====
section
/-! DEFINITION. Which terms of `Instr` are commands of the table: the two rows whose operand the table itself restricts. -/

namespace Sys2Proof

/-- The codes that name a command (R143, R185). -/
def commandCodes : List Byte :=
  [0x10, 0x11, 0x12, 0x13, 0x18, 0x19, 0x1A, 0x1F, 0x20, 0x28, 0x30, 0x31, 0x38, 0x39, 0x3A, 0x3F]

/-- The locations whose write has a row of its own in the table (R179): STAT, CMD, IFLG, IEN, WAKE, TCFG, BDIV, SCFG, NTHR, CTHR,
NLOST, CLOST, NPOP, CPOP, LMOD, SAFE and DLVL. -/
def ownWriteRow : List (BitVec 7) :=
  [0x02, 0x03, 0x05, 0x06, 0x07, 0x0C, 0x0D, 0x0E, 0x0F, 0x10, 0x11, 0x12, 0x15, 0x16, 0x18, 0x19, 0x1A, 0x1B, 0x1C, 0x1D]

/-- BAD_CMD carries a code that names no command (R143), and REGISTER_WRITE, when it is a write, an address without a row of its own (R178).
Every other operand may take every value of its type. -/
def WellFormed : Instr → Bool
  | .badCmd code => !commandCodes.contains code
  | .registerWrite address _ strobes => strobes != .write || !ownWriteRow.contains address
  | _ => true

end Sys2Proof
end

