-- ==== Sys2Proof/Decode.lean ====
section
/-! DEFINITION. Commands as words: the table gives its rows no bits (98_reader: no row with fixed bits or fields), so no word spells one. -/

namespace Sys2Proof

/-- The command that a word spells by the bits of spec/opcode_table.json. No row of the table has bits, so no word of any width spells a
command (log 18). -/
def decodeTableWord (_nbits _w : Nat) : Option Instr := none

end Sys2Proof
end

