-- ==== Sys2Proof/Machine/State.lean ====
section
/-! DEFINITION. Everything the part holds, block by block, as plain data, and its value after reset. -/

namespace Sys2Proof.Machine

open Sys2Proof

/-! ### Records and slots (chapter 2) -/

/-- A slot as the host saw it when it was allocated (section 0.4, R20). -/
structure Handle where
  slot : SlotNo
  tag : Byte
deriving DecidableEq, Repr

/-- Kind, target, option, width and restore of a record (R25, R26, R31): each kind with the fields that are present for it. -/
inductive Action where
  /-- SET drives the line to the level. -/
  | set (line : LineNo) (level : Bool)
  /-- TOGGLE drives the line to the inverse of its level. -/
  | toggle (line : LineNo)
  /-- PULSE drives the line to the active level, and after the width to its inverse. -/
  | pulse (line : LineNo) (active : Bool) (width : Nat) (restore : Bool)
  /-- SEND asks the frame channel to queue the frame. -/
  | send (frame : FrameNo)
  /-- SIGNAL raises FIRED, and asserts WAKE where `wake` says so. -/
  | signal (wake : Bool)
  /-- GATE sets the gate of the capture line OPEN or CLOSED. -/
  | gate (line : CapNo) (opens : Bool)
deriving DecidableEq, Repr

/-- The start field as posted (R27), and rearm, which can be yes with start PARKED only (R31, R32 check 13). -/
inductive Start where
  | absolute (due : Tick)
  | relative (offset : Tick)
  | parked (line : CapNo) (offset : Tick) (rearm : Bool)
deriving DecidableEq, Repr

/-- What is done with an entry taken late (R29). -/
inductive LatePolicy where
  | fireOnce
  | skip
deriving DecidableEq, Repr

/-- Which notices the slot's own work raises (R29). -/
inductive Notify where
  | never
  | atEnd
  | every
deriving DecidableEq, Repr

/-- The fields of a record that the host supplies (section 2.4). -/
structure Record where
  action : Action
  start : Start
  /-- Absent for a one-shot (R28). -/
  period : Option Nat
  /-- Present whenever repeats is (R28). -/
  repeatsPosted : Option Nat
  late : LatePolicy
  notify : Notify
  group : GroupNo
deriving DecidableEq, Repr

/-- What a QUEUED slot carries beside its due (R35, R36, R45): in phase TRAIL its lead due and the suspend-pending flag. -/
inductive QueuePhase where
  | lead
  | trail (leadDue : Tick) (suspendPending : Bool)
deriving DecidableEq, Repr

/-- How a HELD slot is to return, with its remaining (R38, R39). Remaining is a signed number; it is 0 for END. -/
inductive Resume where
  | queue (remaining : BitVec 32)
  | park
  | atEnd
deriving DecidableEq, Repr

/-- The slot state, which names the slot's place (R18), with the run-time fields that are present in it (section 2.6). -/
inductive Place where
  | free
  | queued (due : Tick) (phase : QueuePhase)
  | overdue (due : Tick)
  | parked
  | held (resume : Resume)
deriving DecidableEq, Repr

/-- One action slot (R18, R20). -/
structure Slot where
  tag : Byte
  place : Place
  record : Record
  /-- The occurrences not yet used; absent for a record without a bound (R28). -/
  repeats : Option Nat
  /-- Executions since allocation (R37). -/
  occurrences : Nat
deriving DecidableEq, Repr

/-! ### Requests and notices (sections 4.2, 6.2, 5.5, 9.1) -/

/-- What an edge request drives its line to (section 4.2). -/
inductive Drive where
  | level (value : Bool)
  | inverse
deriving DecidableEq, Repr

/-- An edge or restore request (section 4.2, R75). -/
structure EdgeRequest where
  line : LineNo
  drive : Drive
  handle : Handle
  tick : Tick
deriving DecidableEq, Repr

/-- A send request (R55), which is what a send queue entry holds (R111). -/
structure SendEntry where
  frame : FrameNo
  handle : Handle
  notify : Notify
  tick : Tick
deriving DecidableEq, Repr

/-- A GATE request (R57). -/
structure GateRequest where
  line : CapNo
  opens : Bool
deriving DecidableEq, Repr

/-- The sixteen notice kinds (R164). -/
inductive NoticeKind where
  | fired
  | done
  | late
  | missed
  | conflict
  | blocked
  | aborted
  | sent
  | sendDropped
  | sendAborted
  | frameEmpty
  | haltEntered
  | haltReleased
  | recovered
  | synced
  | syncRejected
deriving DecidableEq, Repr

/-- A notice as its block raises it (R164). -/
structure Notice where
  kind : NoticeKind
  /-- Absent where the notice has no handle. -/
  handle : Option Handle
  time : Tick
  detail : Byte
deriving DecidableEq, Repr

/-- A stored notice with its gap mark (R164, R166). -/
structure NoticeEntry where
  notice : Notice
  gap : Bool
deriving DecidableEq, Repr

/-- The notices that one step of a block raises, on their way to the notice logic (R165). -/
structure NoticeBatch where
  source : NoticeSource
  notices : List Notice
  /-- The halt requests on their way when the frame channel raised it, whose entries of HALTED it had not met (R118, R130); 0 for other blocks. -/
  unmet : Nat := 0
  /-- Raised at a release into HALTED, and so the first notice to be stored after the reset (R140, R176). -/
  first : Bool := false
deriving DecidableEq, Repr

/-! ### The blocks -/

/-- The time base (chapter 1). -/
structure TimeBase where
  tick : Tick
  /-- CLKIN periods into the present tick. -/
  divider : Nat
  psel : Nat
  armed : Bool
  syncVal : Tick
  /-- The SYNC edge detector. -/
  syncSeen : Bool
  /-- The tick snapshot latch. -/
  latch : Tick
deriving DecidableEq, Repr

/-- The firing unit's state (R48), with the CLKIN periods it has been FIRING (R49). -/
inductive UnitState where
  | idle
  | firing (periods : Nat)
deriving DecidableEq, Repr

/-- The due queue and firing unit (chapter 3, section 7.5). -/
structure FiringBlock where
  dueQueue : List SlotNo
  overdue : List SlotNo
  unit : UnitState
  /-- DEDUCED (log 9): a moment of R47 found work that the IDLE unit has not taken yet. -/
  look : Bool
deriving DecidableEq, Repr

/-- The output block (chapter 4). -/
structure OutputBlock where
  /-- LMOD: 1 is SCHEDULED, 0 is DIRECT. -/
  mode : Lines
  /-- OLVL and the pins OUT0 to OUT15. -/
  level : Lines
  /-- SAFE. -/
  safe : Lines
  /-- DLVL. -/
  latch : Lines
  marks : Vector (Option Tick) 16
  safeHold : Bool
  lvlref : Bool
deriving DecidableEq, Repr

/-- Which edges of a capture line are counted (R86). -/
inductive EdgeSelect where
  | none
  | rise
  | fall
  | both
deriving DecidableEq, Repr

/-- The filter progress of a capture line (R84). The candidate level is the inverse of the accepted level. -/
inductive Filter where
  | idle
  | running (transition : Tick) (count : Nat)
deriving DecidableEq, Repr

/-- One capture line (section 5.1). -/
structure CapLine where
  select : EdgeSelect
  filterLength : Nat
  logEnable : Bool
  gateOpen : Bool
  oneShot : Bool
  accepted : Bool
  filter : Filter
deriving DecidableEq, Repr

/-- A capture log entry (R94). -/
structure LogEntry where
  line : CapNo
  rise : Bool
  timestamp : Tick
  gap : Bool
deriving DecidableEq, Repr

/-- The capture block (chapter 5). -/
structure CaptureBlock where
  lines : Vector CapLine 8
  parks : Vector (List SlotNo) 8
  log : List LogEntry
  clost : Nat
  gapPending : Bool
deriving DecidableEq, Repr

/-- A frame: as many bytes as its length, and its lock count (R108). -/
structure Frame where
  bytes : List Byte
  lock : Nat
deriving DecidableEq, Repr

/-- The phase of a frame (R115, R116). -/
inductive FramePhase where
  | leadIn
  | data
  | leadOut
  | gap
deriving DecidableEq, Repr

/-- The shifter while it is not IDLE (section 6.4). -/
structure Shift where
  /-- ABORTING rather than SHIFTING. -/
  aborting : Bool
  entry : SendEntry
  phase : FramePhase
  /-- The bit time in progress: of the byte in `data` (0 to 7), of the gap in `gap` (0 or 1). -/
  bit : Nat
  /-- The second half of the bit time is in progress (R113). -/
  secondHalf : Bool
  /-- Whole bytes sent, which is also the byte in progress. -/
  bytesSent : Nat
deriving DecidableEq, Repr

/-- The frame channel (chapter 6). `shifter` is absent while the shifter is IDLE. -/
structure FrameChannel where
  frames : Vector Frame 8
  queue : List SendEntry
  shifter : Option Shift
  /-- CLKIN periods into the present half bit. -/
  bitDivider : Nat
  bdiv : Byte
  scfg : Byte
  haltHold : Bool
deriving DecidableEq, Repr

/-- The scheduler states (R123). -/
inductive SchedState where
  | stopped
  | running
  | halted
  | recovering
deriving DecidableEq, Repr

/-- What holds the part in reset (R139). -/
inductive ResetHold where
  | powerOn
  | rstPin
deriving DecidableEq, Repr

/-- Scheduler control (chapter 7). -/
structure SchedControl where
  state : SchedState
  /-- The HALT# edge detector holds the asserted level (R129). -/
  haltSeen : Bool
  drainCount : Nat
  hold : Option ResetHold
deriving DecidableEq, Repr

/-- The result codes (R144, R185). -/
inductive ResultCode where
  | none
  | ok
  | badCmd
  | badArg
  | noSlot
  | gone
  | state
  | locked
  | haltActive
  | range
deriving DecidableEq, Repr

/-- The engine state (R141 to R144). Every state but `ready` is BUSY: the command waits for its action step, its drain is in progress,
or its action step has fixed the result that the completion will post. -/
inductive EngineState where
  | ready
  | accepted
  | draining
  | acted (code : ResultCode) (window : Bytes16)
deriving DecidableEq, Repr

/-- The command engine (chapter 8). -/
structure Engine where
  state : EngineState
  staging : Bytes16
  snapshot : Bytes16
  current : Byte
  result : ResultCode
  window : Bytes16
deriving DecidableEq, Repr

/-- The notice queue and interrupt logic (chapter 9). -/
structure NoticeLogic where
  queue : List NoticeEntry
  nlost : Nat
  gapPending : Bool
  /-- The sticky flags at their positions of R181; bits 2 and 3, the level flags, are never set here. -/
  sticky : Byte
  ien : Byte
  nthr : Nat
  cthr : Nat
  wake : Bool
deriving DecidableEq, Repr

/-- A tick event delivered to the capture block: the TICK it brought and the eight samples (R83). -/
structure TickSample where
  tick : Tick
  samples : Byte
deriving DecidableEq, Repr

/-- What scheduler control hands the frame channel (R118, R120). -/
inductive FrameCtl where
  | halt
  | finish
deriving DecidableEq, Repr

/-- The hand-offs that their receivers have not yet taken (R58, R162, R165, R171), oldest first in each list. DEDUCED (log 4). -/
structure Flight where
  edges : List EdgeRequest
  restores : List EdgeRequest
  sends : List SendEntry
  gates : List GateRequest
  wakes : Nat
  notices : List NoticeBatch
  flags : List StickyFlag
  ticks : List TickSample
  jumps : List Tick
  markClears : Nat
  frameCtl : List FrameCtl
deriving DecidableEq, Repr

/-- The part. -/
structure State where
  time : TimeBase
  slots : Vector Slot 64
  fire : FiringBlock
  out : OutputBlock
  cap : CaptureBlock
  chan : FrameChannel
  sched : SchedControl
  engine : Engine
  notes : NoticeLogic
  pins : PinLevels
  /-- The byte returned by the last bus read that a command made (R16, R177); absent when there was none since reset (log 19). -/
  lastRead : Option Byte
  flight : Flight
  /-- The commands that wait, first in, first out. -/
  pending : List Instr
deriving DecidableEq, Repr

/-- The reasons a step can stop with a fault. There are none: every command of the part has an effect, is refused with a result code
or a flag, or is ignored (R2, R142, R144, R178). -/
inductive Fault where
deriving DecidableEq, Repr

/-- The reasons a step can be refused. -/
inductive Refusal where
  /-- Raised by an arm of `exec` whose command has no meaning yet; no arm raises it. Safe: the machine stops. -/
  | notModelled (mnemonic : String)
deriving DecidableEq, Repr

/-! ### Values after reset -/

/-- Sixteen bytes of 0. -/
def zeros16 : Bytes16 := Vector.replicate 16 0

/-- The record shown for a FREE slot, whose fields the host cannot read (R23). DESIGN CHOICE (log 13). -/
def Record.blank : Record :=
  { action := .set 0 false, start := .absolute 0, period := none, repeatsPosted := none, late := .fireOnce, notify := .never, group := 0 }

/-- A FREE slot with its tag (R23, R40). -/
def Slot.freed (tag : Byte) : Slot :=
  { tag := tag, place := .free, record := .blank, repeats := none, occurrences := 0 }

/-- The time base after a reset that released at the SYNC level (R17). -/
def TimeBase.reset (sync : Bool) : TimeBase :=
  { tick := 0, divider := 0, psel := 4, armed := false, syncVal := 0, syncSeen := sync, latch := 0 }

/-- The firing block after a reset (R46). -/
def FiringBlock.reset : FiringBlock := { dueQueue := [], overdue := [], unit := .idle, look := false }

/-- The output block after a reset (R82); the safe hold comes with an entry of HALTED. -/
def OutputBlock.reset : OutputBlock :=
  { mode := 0, level := 0, safe := 0, latch := 0, marks := Vector.replicate 16 none, safeHold := false, lvlref := false }

/-- A capture line after a reset (R107), with its pin's level. -/
def CapLine.reset (level : Bool) : CapLine :=
  { select := .none, filterLength := 0, logEnable := false, gateOpen := false, oneShot := false, accepted := level, filter := .idle }

/-- The capture block after a reset (R107), with the levels of CAP0 to CAP7. -/
def CaptureBlock.reset (cap : Byte) : CaptureBlock :=
  { lines := Vector.ofFn fun c : CapNo => CapLine.reset (cap.getLsbD c.val)
    parks := Vector.replicate 8 []
    log := []
    clost := 0
    gapPending := false }

/-- A frame of length 0, as power-on leaves it (R122). -/
def Frame.empty : Frame := { bytes := [], lock := 0 }

/-- The frame channel after a reset that leaves these frames (R122). -/
def FrameChannel.reset (frames : Vector Frame 8) : FrameChannel :=
  { frames := frames, queue := [], shifter := none, bitDivider := 0, bdiv := 0, scfg := 0, haltHold := false }

/-- Scheduler control after the reset step (R139). -/
def SchedControl.reset (halt : Bool) (hold : Option ResetHold) : SchedControl :=
  { state := .stopped, haltSeen := halt, drainCount := 0, hold := hold }

/-- The command engine after a reset (R146). -/
def Engine.reset : Engine :=
  { state := .ready, staging := zeros16, snapshot := zeros16, current := 0, result := .none, window := zeros16 }

/-- The notice logic after a reset (R176). -/
def NoticeLogic.reset : NoticeLogic :=
  { queue := [], nlost := 0, gapPending := false, sticky := 0, ien := 0, nthr := 1, cthr := 1, wake := false }

/-- No hand-off on its way (R139). -/
def Flight.none : Flight :=
  { edges := [], restores := [], sends := [], gates := [], wakes := 0, notices := [], flags := [], ticks := [], jumps := [],
    markClears := 0, frameCtl := [] }

/-- The input pins that State.reset shows: HALT# released, SYNC and CAP0 to CAP7 low. DESIGN CHOICE (log 7). -/
def quietPins : PinLevels := { haltAsserted := false, sync := false, cap := 0 }

/-- The part after power-on reset and its release, with quiet pins (R17, R40, R46, R82, R107, R122, R139, R140, R146, R176; log 7). -/
def State.reset : State :=
  { time := .reset false
    slots := Vector.replicate 64 (Slot.freed 0)
    fire := .reset
    out := .reset
    cap := .reset 0
    chan := .reset (Vector.replicate 8 Frame.empty)
    sched := .reset false none
    engine := .reset
    notes := .reset
    pins := quietPins
    lastRead := none
    flight := .none
    pending := [] }

end Sys2Proof.Machine
end

