-- ==== Sys2Proof/Machine/Operands.lean ====
section
/-! DEFINITION. The layouts of chapter 10: byte order, the staging bytes a command reads, the record it offers and the checks on it, and the
result bytes a command returns. -/

namespace Sys2Proof.Machine

open Sys2Proof

/-! ### Byte order and numbers -/

/-- Two bytes, least significant first (R178). -/
def le16 (b0 b1 : Byte) : BitVec 16 := b1 ++ b0

/-- Three bytes, least significant first (R178). -/
def le24 (b0 b1 b2 : Byte) : BitVec 24 := b2 ++ b1 ++ b0

/-- Four bytes, least significant first (R178). -/
def le32 (b0 b1 b2 b3 : Byte) : BitVec 32 := b3 ++ b2 ++ b1 ++ b0

/-- The four bytes of a tick value, least significant first (R178). -/
def bytes32 (w : BitVec 32) : List Byte :=
  [w.extractLsb' 0 8, w.extractLsb' 8 8, w.extractLsb' 16 8, w.extractLsb' 24 8]

/-- A count as one byte. -/
def byteOf (n : Nat) : Byte := BitVec.ofNat 8 n

/-- A count as one byte that stops at 255 (R67, R137). -/
def cappedByte (n : Nat) : Byte := BitVec.ofNat 8 (min n Config.byteMax)

/-- A bit shown as a byte of 0 or 1. -/
def flagByte (b : Bool) : Byte := if b then 1 else 0

/-- A result window of these bytes, zero behind them (R144). -/
def windowOf (l : List Byte) : Bytes16 :=
  #v[l.getD 0 0, l.getD 1 0, l.getD 2 0, l.getD 3 0, l.getD 4 0, l.getD 5 0, l.getD 6 0, l.getD 7 0,
     l.getD 8 0, l.getD 9 0, l.getD 10 0, l.getD 11 0, l.getD 12 0, l.getD 13 0, l.getD 14 0, l.getD 15 0]

/-- The distance of a tick value from TICK (section 0.4, R5): the difference modulo 2^32, read as a signed number. -/
def distance (due now : Tick) : Int := (due - now).toInt

/-- All slot numbers, ascending. -/
def allSlots : List SlotNo := List.finRange 64

/-- All capture lines, ascending. -/
def allCaps : List CapNo := List.finRange 8

/-! ### What a record and a slot say -/

/-- The kind code (R182). -/
def Action.code : Action → Nat
  | .set _ _ => 0
  | .toggle _ => 1
  | .pulse _ _ _ _ => 2
  | .send _ => 3
  | .signal _ => 4
  | .gate _ _ => 5

/-- The target; 0 where it is absent (R25, R183). -/
def Action.target : Action → Nat
  | .set line _ => line.val
  | .toggle line => line.val
  | .pulse line _ _ _ => line.val
  | .send frame => frame.val
  | .signal _ => 0
  | .gate line _ => line.val

/-- The option bit; 0 where it is absent (R25, R182). -/
def Action.optionBit : Action → Bool
  | .set _ level => level
  | .toggle _ => false
  | .pulse _ active _ _ => active
  | .send _ => false
  | .signal wake => wake
  | .gate _ opens => opens

/-- The restore bit; 0 where it is absent (R31). -/
def Action.restoreBit : Action → Bool
  | .pulse _ _ _ restore => restore
  | _ => false

/-- The width; 0 where it is absent (R26). -/
def Action.widthOf : Action → Nat
  | .pulse _ _ width _ => width
  | _ => 0

/-- SIGNAL, whose FIRED notice is always raised (R29, R67). -/
def Action.isSignal : Action → Bool
  | .signal _ => true
  | _ => false

/-- The start mode code (R182). -/
def Start.code : Start → Nat
  | .absolute _ => 0
  | .relative _ => 1
  | .parked _ _ _ => 2

/-- The due D or the offset of the start field (R183). -/
def Start.value : Start → Tick
  | .absolute due => due
  | .relative offset => offset
  | .parked _ offset _ => offset

/-- The park line of a PARKED start (R27). -/
def Start.parkLine : Start → Option CapNo
  | .parked line _ _ => some line
  | _ => none

/-- Rearm (R31). -/
def Start.rearm : Start → Bool
  | .parked _ _ rearm => rearm
  | _ => false

/-- The start field with a new park offset (R154); other starts have none. -/
def Start.withOffset (offset : Tick) : Start → Start
  | .parked line _ rearm => .parked line offset rearm
  | other => other

/-- The late policy bit (R182). -/
def LatePolicy.bit : LatePolicy → Bool
  | .fireOnce => false
  | .skip => true

/-- The notify code (R182). -/
def Notify.code : Notify → Nat
  | .never => 0
  | .atEnd => 1
  | .every => 2

/-- Not FREE (R21). -/
def Slot.inUse (sl : Slot) : Bool := sl.place != .free

/-- QUEUED. -/
def Slot.isQueued (sl : Slot) : Bool :=
  match sl.place with
  | .queued _ _ => true
  | _ => false

/-- QUEUED in phase TRAIL (R35). -/
def Slot.isTrail (sl : Slot) : Bool :=
  match sl.place with
  | .queued _ (.trail _ _) => true
  | _ => false

/-- OVERDUE. -/
def Slot.isOverdue (sl : Slot) : Bool :=
  match sl.place with
  | .overdue _ => true
  | _ => false

/-- PARKED. -/
def Slot.isParked (sl : Slot) : Bool := sl.place == .parked

/-- HELD. -/
def Slot.isHeld (sl : Slot) : Bool :=
  match sl.place with
  | .held _ => true
  | _ => false

/-- The suspend-pending flag (R36). -/
def Slot.suspendPending (sl : Slot) : Bool :=
  match sl.place with
  | .queued _ (.trail _ pending) => pending
  | _ => false

/-- The due of a QUEUED or OVERDUE slot (R34). -/
def Slot.due (sl : Slot) : Option Tick :=
  match sl.place with
  | .queued due _ => some due
  | .overdue due => some due
  | _ => none

/-- The lead due, present in phase TRAIL (R45). -/
def Slot.leadDue (sl : Slot) : Option Tick :=
  match sl.place with
  | .queued _ (.trail leadDue _) => some leadDue
  | _ => none

/-- The slot state code (R147). -/
def Slot.stateCode (sl : Slot) : Nat :=
  match sl.place with
  | .free => 0
  | .queued _ _ => 1
  | .overdue _ => 2
  | .parked => 3
  | .held _ => 4

/-- The resume point code (R147); 0 where there is none. -/
def Slot.resumeCode (sl : Slot) : Nat :=
  match sl.place with
  | .held .park => 1
  | .held .atEnd => 2
  | _ => 0

/-- The due, or the remaining, of READ_SLOT part 1 (R159, R183). -/
def Slot.dueOrRemaining (sl : Slot) : BitVec 32 :=
  match sl.place with
  | .queued due _ => due
  | .overdue due => due
  | .held (.queue remaining) => remaining
  | _ => 0

/-- The group is selected by the mask (R147). -/
def Slot.inGroups (mask : Byte) (sl : Slot) : Bool := mask.getLsbD sl.record.group.val

/-! ### The POST staging layout (R182) -/

/-- Kind code: byte 0, bits 2 to 0. -/
def Layout.kind (b : Bytes16) : Nat := (b[0].extractLsb' 0 3).toNat

/-- Start mode code: byte 0, bits 4 and 3. -/
def Layout.startMode (b : Bytes16) : Nat := (b[0].extractLsb' 3 2).toNat

/-- Late policy: byte 0, bit 5. -/
def Layout.late (b : Bytes16) : LatePolicy := if b[0].getLsbD 5 then .skip else .fireOnce

/-- Notify code: byte 0, bits 7 and 6. -/
def Layout.notifyCode (b : Bytes16) : Nat := (b[0].extractLsb' 6 2).toNat

/-- Target: byte 1, bits 3 to 0. -/
def Layout.target (b : Bytes16) : Nat := (b[1].extractLsb' 0 4).toNat

/-- Option: byte 1, bit 4. -/
def Layout.option (b : Bytes16) : Bool := b[1].getLsbD 4

/-- Restore: byte 1, bit 5. -/
def Layout.restore (b : Bytes16) : Bool := b[1].getLsbD 5

/-- Rearm: byte 1, bit 6. -/
def Layout.rearm (b : Bytes16) : Bool := b[1].getLsbD 6

/-- Group: byte 2. -/
def Layout.group (b : Bytes16) : Nat := b[2].toNat

/-- Due D, relative offset or park offset: bytes 3 to 6. -/
def Layout.value (b : Bytes16) : Tick := le32 b[3] b[4] b[5] b[6]

/-- Period: bytes 7 to 9. -/
def Layout.period (b : Bytes16) : Nat := (le24 b[7] b[8] b[9]).toNat

/-- Repeats: byte 10. -/
def Layout.repeats (b : Bytes16) : Nat := b[10].toNat

/-- Width: bytes 11 and 12. -/
def Layout.width (b : Bytes16) : Nat := (le16 b[11] b[12]).toNat

/-- Park line: byte 13. -/
def Layout.parkLine (b : Bytes16) : Nat := b[13].toNat

/-- A number that is absent when it is 0 (R28). -/
def presentNat (n : Nat) : Option Nat := if n = 0 then none else some n

/-- The action of the layout, with the fields present for its kind (R25, R26, R31). -/
def Layout.action (b : Bytes16) : Action :=
  match Layout.kind b with
  | 0 => .set (Fin.ofNat 16 (Layout.target b)) (Layout.option b)
  | 1 => .toggle (Fin.ofNat 16 (Layout.target b))
  | 2 => .pulse (Fin.ofNat 16 (Layout.target b)) (Layout.option b) (Layout.width b) (Layout.restore b)
  | 3 => .send (Fin.ofNat 8 (Layout.target b))
  | 4 => .signal (Layout.option b)
  | _ => .gate (Fin.ofNat 8 (Layout.target b)) (Layout.option b)

/-- The start field of the layout (R27). -/
def Layout.start (b : Bytes16) : Start :=
  match Layout.startMode b with
  | 0 => .absolute (Layout.value b)
  | 1 => .relative (Layout.value b)
  | _ => .parked (Fin.ofNat 8 (Layout.parkLine b)) (Layout.value b) (Layout.rearm b)

/-- The notify field of the layout (R29). -/
def Layout.notify (b : Bytes16) : Notify :=
  match Layout.notifyCode b with
  | 0 => .never
  | 1 => .atEnd
  | _ => .every

/-- The record of the layout (R22, R182). It is used only after `recordFault` has found no fault in the layout. -/
def Layout.record (b : Bytes16) : Record :=
  { action := Layout.action b
    start := Layout.start b
    period := presentNat (Layout.period b)
    repeatsPosted := presentNat (Layout.repeats b)
    late := Layout.late b
    notify := Layout.notify b
    group := Fin.ofNat 8 (Layout.group b) }

/-- The number of the first check that fails. -/
def firstFailing (checks : List (Nat × Bool)) : Option Nat := (checks.find? (·.2)).map (·.1)

/-- Check 9 fails: the distance is greater than 2^30 or less than -2^30 (R32). -/
def beyondHorizon (due now : Tick) : Bool :=
  decide (distance due now > (Config.horizon : Int)) || decide (distance due now < -(Config.horizon : Int))

/-- The number of the first check of R32 that the record in the staging bytes fails, if it fails one. -/
def recordFault (b : Bytes16) (now : Tick) : Option Nat :=
  firstFailing
    [(1, decide (5 < Layout.kind b)),
     (2, Layout.startMode b == 3),
     (3, Layout.notifyCode b == 3),
     (4, (Layout.kind b == 3 || Layout.kind b == 5) && decide (7 < Layout.target b)),
     (5, decide (7 < Layout.group b)),
     (6, Layout.kind b == 2 && Layout.width b == 0),
     (7, Layout.period b == 0 && Layout.repeats b != 0),
     (8, Layout.kind b == 2 && Layout.period b != 0 && decide (Layout.period b ≤ Layout.width b)),
     (9, Layout.startMode b == 0 && beyondHorizon (Layout.value b) now),
     (10, Layout.startMode b == 1 && decide (Config.horizon < (Layout.value b).toNat)),
     (11, Layout.startMode b == 2 && decide (Config.parkOffsetBound ≤ (Layout.value b).toNat)),
     (12, Layout.startMode b == 2 && decide (7 < Layout.parkLine b)),
     (13, Layout.rearm b && Layout.startMode b != 2)]

/-! ### The AMEND layout (R153) -/

/-- The due change selector: byte 2. -/
def Layout.dueChange (b : Bytes16) : Nat := b[2].toNat

/-- The schedule change selector: byte 14. -/
def Layout.scheduleChange (b : Bytes16) : Nat := b[14].toNat

/-- The record with the schedule change applied (R154): the new period, and repeats as posted, absent when the period is. -/
def amendedSchedule (b : Bytes16) (r : Record) : Record :=
  if Layout.scheduleChange b = 1 then
    { r with
      period := presentNat (Layout.period b)
      repeatsPosted := if Layout.period b = 0 then none else presentNat (Layout.repeats b) }
  else r

/-- The number of the first check of R32 that the record fails as the AMEND would leave it (R33): checks 7 and 8 for a new schedule,
check 9, 10 or 11 for a new due or offset. DEDUCED (log 11): the values the AMEND does not carry are not checked again. -/
def amendFault (b : Bytes16) (r : Record) (now : Tick) : Option Nat :=
  firstFailing
    [(7, Layout.scheduleChange b == 1 && Layout.period b == 0 && Layout.repeats b != 0),
     (8, Layout.scheduleChange b == 1 && r.action.code == 2 && Layout.period b != 0 && decide (Layout.period b ≤ r.action.widthOf)),
     (9, Layout.dueChange b == 1 && beyondHorizon (Layout.value b) now),
     (10, Layout.dueChange b == 2 && decide (Config.horizon < (Layout.value b).toNat)),
     (11, Layout.dueChange b == 3 && decide (Config.parkOffsetBound ≤ (Layout.value b).toNat))]

/-! ### READ_SLOT results (R159, R183) -/

/-- Byte 0 of the layout, from a record. -/
def Record.byte0 (r : Record) : Byte :=
  byteOf (r.action.code + 8 * r.start.code + (if r.late.bit then 32 else 0) + 64 * r.notify.code)

/-- Byte 1 of the layout, from a record. -/
def Record.byte1 (r : Record) : Byte :=
  byteOf (r.action.target + (if r.action.optionBit then 16 else 0) + (if r.action.restoreBit then 32 else 0)
    + (if r.start.rearm then 64 else 0))

/-- Part 0: the record, in the POST layout, and the slot state. -/
def Slot.recordBytes (sl : Slot) : List Byte :=
  let r := sl.record
  let period : BitVec 24 := BitVec.ofNat 24 (r.period.getD 0)
  let width : BitVec 16 := BitVec.ofNat 16 r.action.widthOf
  [r.byte0, r.byte1, byteOf r.group.val] ++ bytes32 r.start.value
    ++ [period.extractLsb' 0 8, period.extractLsb' 8 8, period.extractLsb' 16 8, byteOf (r.repeatsPosted.getD 0),
        width.extractLsb' 0 8, width.extractLsb' 8 8, byteOf ((r.start.parkLine.map (·.val)).getD 0), byteOf sl.stateCode]

/-- Part 1: the run-time fields. -/
def Slot.runtimeBytes (sl : Slot) : List Byte :=
  let occurrences : BitVec 16 := BitVec.ofNat 16 sl.occurrences
  [byteOf sl.stateCode, flagByte sl.isTrail, flagByte sl.suspendPending, byteOf sl.resumeCode]
    ++ bytes32 sl.dueOrRemaining ++ bytes32 (sl.leadDue.getD 0)
    ++ [byteOf (sl.repeats.getD 0), occurrences.extractLsb' 0 8, occurrences.extractLsb' 8 8]

/-! ### Codes read by the host -/

/-- The scheduler state code (R123). -/
def SchedState.code : SchedState → Nat
  | .stopped => 0
  | .running => 1
  | .halted => 2
  | .recovering => 3

/-- The result code (R185). -/
def ResultCode.code : ResultCode → Nat
  | .none => 0
  | .ok => 1
  | .badCmd => 2
  | .badArg => 3
  | .noSlot => 4
  | .gone => 5
  | .state => 6
  | .locked => 7
  | .haltActive => 8
  | .range => 9

/-- The notice kind code (R184). -/
def NoticeKind.code : NoticeKind → Nat
  | .fired => 1
  | .done => 2
  | .late => 3
  | .missed => 4
  | .conflict => 5
  | .blocked => 6
  | .aborted => 7
  | .sent => 8
  | .sendDropped => 9
  | .sendAborted => 10
  | .frameEmpty => 11
  | .haltEntered => 12
  | .haltReleased => 13
  | .recovered => 14
  | .synced => 15
  | .syncRejected => 16

/-- The edge select code (R90). -/
def EdgeSelect.code : EdgeSelect → Nat
  | .none => 0
  | .rise => 1
  | .fall => 2
  | .both => 3

/-- The edge select of a legal code (R90). -/
def EdgeSelect.ofCode : Nat → EdgeSelect
  | 0 => .none
  | 1 => .rise
  | 2 => .fall
  | _ => .both

/-- The edge select admits an edge of this polarity (R86). -/
def EdgeSelect.admits : EdgeSelect → (rising : Bool) → Bool
  | .none, _ => false
  | .rise, rising => rising
  | .fall, rising => !rising
  | .both, _ => true

/-- The shifter state code (R110). -/
def shifterCode : Option Shift → Nat
  | none => 0
  | some sh => if sh.aborting then 2 else 1

end Sys2Proof.Machine
end

