-- ==== Sys2Proof/Machine/Flags.lean ====
section
/-! DEFINITION. The interrupt flags, INTQ# and the status byte: every flag computation of chapters 9 and 10. -/

namespace Sys2Proof.Machine

open Sys2Proof

/-- The position of a sticky flag in IFLG and IEN (R181). -/
def stickyBit : StickyFlag → Byte
  | .cmdDone => 0x01
  | .cmdRefused => 0x02
  | .noticeLost => 0x10
  | .captureLost => 0x20
  | .halt => 0x40
  | .serialIdle => 0x80

/-- The flag set in the sticky flags; a flag already set stays set (R171). -/
def setSticky (f : StickyFlag) (sticky : Byte) : Byte := sticky ||| stickyBit f

/-- Each flag written with 1 cleared, the others left (R171). -/
def clearSticky (written sticky : Byte) : Byte := sticky &&& ~~~written

/-- The NOTICE flag: NCNT is at or above NTHR (R173). -/
def State.noticeFlag (s : State) : Bool := decide (s.notes.nthr ≤ s.notes.queue.length)

/-- The CAPTURE flag: CCNT is at or above CTHR (R173). -/
def State.captureFlag (s : State) : Bool := decide (s.notes.cthr ≤ s.cap.log.length)

/-- IFLG: the six sticky flags, and the two level flags at bits 2 and 3 (R171, R181). -/
def State.iflg (s : State) : Byte :=
  s.notes.sticky ||| (if s.noticeFlag then 0x04 else 0) ||| (if s.captureFlag then 0x08 else 0)

/-- INTQ# is asserted: some flag and its enable are both set (R174). -/
def State.intqAsserted (s : State) : Bool := (s.iflg &&& s.notes.ien) != 0

/-- BUSY (R141, R180). -/
def Engine.busy (e : Engine) : Bool := e.state != .ready

/-- STAT (R180); while the part is held in reset, bit 3 shows the pin. -/
def State.stat (s : State) : Byte :=
  byteOf s.sched.state.code
    ||| (if s.engine.busy then 0x04 else 0)
    ||| (if (if s.sched.hold.isSome then s.pins.haltAsserted else s.sched.haltSeen) then 0x08 else 0)
    ||| (if s.time.armed then 0x10 else 0)
    ||| (if s.out.lvlref then 0x20 else 0)

end Sys2Proof.Machine
end

