-- ==== Sys2Proof/Machine/Ops.lean ====
section
/-! DEFINITION. The operations that several steps share: hand-offs, the places of slots, the moments at which the firing unit looks at its
queues, completion, firing, the entry of HALTED, resets, and the protocol of the command engine. -/

namespace Sys2Proof.Machine

open Sys2Proof

/-! ### Hand-offs -/

/-- The halt requests among these that the frame channel has yet to take (R118). -/
def haltsWaiting (requests : List FrameCtl) : Nat := (requests.filter fun r => r == .halt).length

/-- The notices of one step handed to the notice logic as one hand-off (R165); a step without notices hands nothing. -/
def State.handNotices (source : NoticeSource) (ns : List Notice) (s : State) (first : Bool := false) : State :=
  match ns with
  | [] => s
  | _ =>
    let unmet := if source = .frame then haltsWaiting s.flight.frameCtl else 0
    { s with flight := { s.flight with notices := s.flight.notices ++ [{ source := source, notices := ns, unmet := unmet, first := first }] } }

/-- An edge request handed to the output block (R52 to R54). -/
def State.handEdge (r : EdgeRequest) (s : State) : State :=
  { s with flight := { s.flight with edges := s.flight.edges ++ [r] } }

/-- A request to set a sticky flag handed to the interrupt logic (R171). -/
def State.requestFlag (f : StickyFlag) (s : State) : State :=
  { s with flight := { s.flight with flags := s.flight.flags ++ [f] } }

/-! ### Slots -/

/-- The slot's record, tag and place replaced. -/
def State.setSlot (n : SlotNo) (sl : Slot) (s : State) : State :=
  { s with slots := s.slots.set n.val sl n.isLt }

/-- The handle of a slot as it stands. -/
def State.handle (s : State) (n : SlotNo) : Handle := { slot := n, tag := s.slots[n].tag }

/-- The distance of a slot's due from TICK (R5); 0 for a slot without a due, which is in no queue. -/
def State.slotDistance (s : State) (n : SlotNo) : Int :=
  match s.slots[n].due with
  | some due => distance due s.time.tick
  | none => 0

/-- The slot that a handle names, when the handle is live (R21, R147). -/
def State.liveSlot (s : State) (slot tag : Byte) : Option SlotNo :=
  if h : slot.toNat < 64 then
    let n : SlotNo := ⟨slot.toNat, h⟩
    if tag ≠ 0 ∧ s.slots[n].inUse ∧ s.slots[n].tag = tag then some n else none
  else none

/-- The slots that are not FREE and whose group the mask selects, ascending (R147). -/
def State.selected (s : State) (mask : Byte) : List SlotNo :=
  allSlots.filter fun n => s.slots[n].inUse && s.slots[n].inGroups mask

/-! ### The moments of R47 -/

/-- The due queue head is due (R5). -/
def State.headDue (s : State) : Bool :=
  match s.fire.dueQueue with
  | [] => false
  | n :: _ => decide (s.slotDistance n ≤ 0)

/-- The IDLE firing unit finds something to do when it looks (R47, R50, R137): in RECOVERING there is always a head, a drain step or
the end of the drain. -/
def State.workWaiting (s : State) : Bool :=
  match s.sched.state with
  | .stopped => false
  | .running => s.headDue
  | .halted => s.headDue
  | .recovering => true

/-- A moment of R47: the firing unit, if it is IDLE, looks at the head. -/
def State.atMoment (s : State) : State :=
  match s.fire.unit with
  | .idle => { s with fire := { s.fire with look := s.workWaiting } }
  | .firing _ => s

/-- The moment that comes with an insertion or removal which gives the queue a new head (R47). -/
def State.momentIfNewHead (before : Option SlotNo) (s : State) : State :=
  if s.fire.dueQueue.head? = before then s else s.atMoment

/-! ### Places (R18): a slot leaves one place and joins the next in one step -/

/-- The slot removed from the ordered collection its state names; the others keep their order (R43, R100, R133). -/
def State.detach (n : SlotNo) (s : State) : State :=
  match s.slots[n].place with
  | .queued _ _ =>
    { s with fire := { s.fire with dueQueue := s.fire.dueQueue.erase n } }.momentIfNewHead s.fire.dueQueue.head?
  | .overdue _ => { s with fire := { s.fire with overdue := s.fire.overdue.erase n } }
  | .parked =>
    match s.slots[n].record.start.parkLine with
    | some c => { s with cap := { s.cap with parks := s.cap.parks.set c.val (s.cap.parks[c].erase n) c.isLt } }
    | none => s
  | .free => s
  | .held _ => s

/-- The new entry directly behind the last entry that `notAfter` accepts, and at the head when there is none (R42). -/
def insertBehind (notAfter : SlotNo → Bool) (n : SlotNo) : List SlotNo → List SlotNo
  | [] => [n]
  | x :: xs => if (x :: xs).any notAfter then x :: insertBehind notAfter n xs else n :: x :: xs

/-- The slot freed: its tag is kept (R20, R23). -/
def State.putFree (n : SlotNo) (s : State) : State :=
  (s.detach n).setSlot n (Slot.freed s.slots[n].tag)

/-- The slot QUEUED with this due and phase, inserted by R42. -/
def State.putQueued (n : SlotNo) (sl : Slot) (due : Tick) (phase : QueuePhase) (s : State) : State :=
  let s1 := (s.detach n).setSlot n { sl with place := .queued due phase }
  { s1 with fire := { s1.fire with
      dueQueue := insertBehind (fun m => decide (s1.slotDistance m ≤ distance due s1.time.tick)) n s1.fire.dueQueue } }.momentIfNewHead
    s1.fire.dueQueue.head?

/-- The slot OVERDUE with this due, at the tail of the overdue list (R133). -/
def State.putOverdue (n : SlotNo) (sl : Slot) (due : Tick) (s : State) : State :=
  let s1 := (s.detach n).setSlot n { sl with place := .overdue due }
  { s1 with fire := { s1.fire with overdue := s1.fire.overdue ++ [n] } }

/-- The capture block's append of a PARKED slot at the tail of the list of its start field's line, each slot once (R99). DEDUCED (log 6). -/
def State.appendPark (n : SlotNo) (s : State) : State :=
  match s.slots[n].place, s.slots[n].record.start.parkLine with
  | .parked, some c =>
    if s.cap.parks[c].contains n then s
    else { s with cap := { s.cap with parks := s.cap.parks.set c.val (s.cap.parks[c] ++ [n]) c.isLt } }
  | _, _ => s

/-- The slot PARKED and, in the same step, in its park list (R62, R99). -/
def State.putParked (n : SlotNo) (sl : Slot) (s : State) : State :=
  ((s.detach n).setSlot n { sl with place := .parked }).appendPark n

/-- The slot HELD with this resume point (R38). -/
def State.putHeld (n : SlotNo) (sl : Slot) (resume : Resume) (s : State) : State :=
  (s.detach n).setSlot n { sl with place := .held resume }

/-! ### Completion and finishing (section 3.4) -/

/-- A notice about a slot, with its handle and TICK at the step (R67). -/
def State.slotNotice (s : State) (n : SlotNo) (kind : NoticeKind) (detail : Byte) : Notice :=
  { kind := kind, handle := some (s.handle n), time := s.time.tick, detail := detail }

/-- DONE, when notify is not NONE (R67). -/
def State.doneNotice (n : SlotNo) (sl : Slot) (s : State) : List Notice :=
  if sl.record.notify = .never then [] else [s.slotNotice n .done (byteOf sl.occurrences)]

/-- MISSED with the number skipped, when there is one (R60, R67). -/
def State.missedNotice (n : SlotNo) (skipped : Nat) (s : State) : List Notice :=
  if skipped = 0 then [] else [s.slotNotice n .missed (cappedByte skipped)]

/-- The slot finishes (R61, R62): to the held set when suspend pending is set, back to its park list with rearm, and otherwise freed.
`tellDone` is false for a one-shot finished by SKIP (R64). -/
def State.finishSlot (n : SlotNo) (sl : Slot) (suspend tellDone : Bool) (s : State) : State × List Notice :=
  if suspend then (s.putHeld n sl .atEnd, [])
  else
    let told := if tellDone then s.doneNotice n sl else []
    if sl.record.start.rearm then (s.putParked n { sl with repeats := sl.record.repeatsPosted }, told)
    else (s.putFree n, told)

/-- The least k of 1 or more for which the base, at distance `b`, plus k periods has a distance greater than 0 (R60; log 20). Distances wrap
modulo 2^32 (section 0.4): a base that lies ahead, as a lead due can after time jumps (R45), can have its first sums wrap to the far side of
TICK, and k then counts on until they lie ahead again. -/
def periodsAhead (b : Int) (period : Nat) : Nat :=
  if b + period ≤ 0 then (-b).toNat / period + 1
  else if 0 < b ∧ 2147483648 ≤ b + period then (4294967296 - b).toNat / period + 1
  else 1

/-- The next occurrence after the base (R60), or the finish when the skipped occurrences use up the repeats. `already` counts an
occurrence that was itself skipped (R65). A suspend-pending flag sends the slot to the held set (R36, R61). DESIGN CHOICE (log 30): k is at
least 1 also for a base ahead of TICK, where the next occurrence lies further ahead than the one period that R44 and R60 speak of. -/
def State.nextOccurrence (n : SlotNo) (sl : Slot) (suspend : Bool) (base : Tick) (period already : Nat) (s : State) :
    State × List Notice :=
  let k := periodsAhead (distance base s.time.tick) period
  let next := base + BitVec.ofNat 32 (k * period)
  let onward (sl' : Slot) : State × List Notice :=
    (if suspend then s.putHeld n sl' (.queue (next - s.time.tick)) else s.putQueued n sl' next .lead,
     s.missedNotice n (already + (k - 1)))
  match sl.repeats with
  | none => onward sl
  | some r =>
    if k ≤ r then onward { sl with repeats := some (r - (k - 1)) }
    else
      let (s', told) := s.finishSlot n { sl with repeats := some 0 } suspend true
      (s', s.missedNotice n (already + r) ++ told)

/-- Completion handling (R59): the occurrence is counted, repeats are consumed, and the slot finishes or goes on. -/
def State.complete (n : SlotNo) (sl : Slot) (suspend : Bool) (base : Tick) (s : State) : State × List Notice :=
  let sl' := { sl with occurrences := min (sl.occurrences + 1) Config.countMax, repeats := sl.repeats.map (· - 1) }
  match sl'.record.period with
  | none => s.finishSlot n sl' suspend true
  | some period =>
    if sl'.repeats = some 0 then s.finishSlot n sl' suspend true else s.nextOccurrence n sl' suspend base period 0

/-! ### Executing an entry (sections 3.3 and 3.5) -/

/-- The hand-off of an executed LEAD entry to the block that owns its target (R52, R53, R55, R56, R57). -/
def State.handAction (n : SlotNo) (sl : Slot) (s : State) : State :=
  let h : Handle := { slot := n, tag := sl.tag }
  match sl.record.action with
  | .set line level => s.handEdge { line := line, drive := .level level, handle := h, tick := s.time.tick }
  | .toggle line => s.handEdge { line := line, drive := .inverse, handle := h, tick := s.time.tick }
  | .pulse line active _ _ => s.handEdge { line := line, drive := .level active, handle := h, tick := s.time.tick }
  | .send frame =>
    { s with flight := { s.flight with
        sends := s.flight.sends ++ [{ frame := frame, handle := h, notify := sl.record.notify, tick := s.time.tick }] } }
  | .signal wake => if wake then { s with flight := { s.flight with wakes := s.flight.wakes + 1 } } else s
  | .gate line opens => { s with flight := { s.flight with gates := s.flight.gates ++ [{ line := line, opens := opens }] } }

/-- LATE with the lateness, when notify is not NONE (R63, R66, R67). -/
def State.lateNotice (n : SlotNo) (sl : Slot) (due : Tick) (s : State) : List Notice :=
  if sl.record.notify = .never then [] else [s.slotNotice n .late (cappedByte (distance due s.time.tick).natAbs)]

/-- FIRED on an execution: for SIGNAL always, for other kinds when notify is EVERY (R67). -/
def State.firedNotice (n : SlotNo) (sl : Slot) (s : State) : List Notice :=
  if sl.record.action.isSignal || sl.record.notify = .every then [s.slotNotice n .fired (byteOf sl.record.action.code)] else []

/-- A late LEAD entry under SKIP (R64, R65): nothing is executed, the occurrence is missed. -/
def State.skipEntry (n : SlotNo) (sl : Slot) (due : Tick) (s : State) : State × List Notice :=
  match sl.record.period with
  | none =>
    let (s', told) := s.finishSlot n sl false false
    (s', s.missedNotice n 1 ++ told)
  | some period =>
    let sl' := { sl with repeats := sl.repeats.map (· - 1) }
    if sl'.repeats = some 0 then
      let (s', told) := s.finishSlot n sl' false true
      (s', s.missedNotice n 1 ++ told)
    else s.nextOccurrence n sl' false due period 1

/-- A LEAD entry executed (R52 to R57, R63): its hand-off, then phase TRAIL for a PULSE and completion for every other kind. -/
def State.executeLead (n : SlotNo) (sl : Slot) (due : Tick) (late : Bool) (s : State) : State × List Notice :=
  let told := (if late then s.lateNotice n sl due else []) ++ s.firedNotice n sl
  let s1 := s.handAction n sl
  match sl.record.action with
  | .pulse _ _ width _ => (s1.putQueued n sl (s.time.tick + BitVec.ofNat 32 width) (.trail due false), told)
  | _ =>
    let (s2, more) := s1.complete n sl false due
    (s2, told ++ more)

/-- A LEAD entry taken (R51): executed, or skipped when it is late under SKIP. -/
def State.takeLead (n : SlotNo) (sl : Slot) (due : Tick) (late : Bool) (s : State) : State × List Notice :=
  if late && sl.record.late = .skip then s.skipEntry n sl due else s.executeLead n sl due late

/-- A TRAIL entry taken (R54, R66): its edge is always executed, and completion counts from the lead due. Only a PULSE is ever in TRAIL (R35);
DESIGN CHOICE (log 23): another kind would make no edge. -/
def State.takeTrail (n : SlotNo) (sl : Slot) (due leadDue : Tick) (suspend : Bool) (s : State) : State × List Notice :=
  let told := if distance due s.time.tick < 0 then s.lateNotice n sl due else []
  let s1 :=
    match sl.record.action with
    | .pulse line active _ _ =>
      s.handEdge { line := line, drive := .level (!active), handle := { slot := n, tag := sl.tag }, tick := s.time.tick }
    | _ => s
  let (s2, more) := s1.complete n sl suspend leadDue
  (s2, told ++ more)

/-- The firing unit becomes FIRING (R48, R49); what it looked for is taken. -/
def State.beginFiring (s : State) : State :=
  { s with fire := { s.fire with unit := .firing 0, look := false } }

/-! ### Lines, time and the entry of HALTED -/

/-- Bits of `v` where the mask is 1, of `w` elsewhere. -/
def mix (mask v w : Lines) : Lines := (v &&& mask) ||| (w &&& ~~~mask)

/-- Every line at its safe level, and the safe hold in force (R77). -/
def OutputBlock.force (o : OutputBlock) : OutputBlock := { o with level := o.safe, safeHold := true }

/-- The safe hold ended: every DIRECT line driven to its latch bit (R81). -/
def OutputBlock.endHold (o : OutputBlock) : OutputBlock := { o with level := mix o.mode o.level o.latch, safeHold := false }

/-- The check of R7 on a jump from TICK to the new value, against the due queue as it stands. A jump of 0 always passes (R9, R14). DESIGN CHOICE
(log 29): it passes also where the head lies more than 2^30 ticks behind already, where R7's check would refuse it. -/
def State.jumpAllowed (new : Tick) (s : State) : Bool :=
  if new = s.time.tick then true
  else
    match s.fire.dueQueue.head?, s.fire.dueQueue.getLast? with
    | some h, some t =>
      let j := distance new s.time.tick
      decide (-(Config.horizon : Int) ≤ s.slotDistance h - j) && decide (s.slotDistance t - j ≤ (Config.horizon : Int))
    | _, _ => true

/-- An accepted time jump (R8): TICK loaded, the divider cleared, the jump handed to the capture and output blocks. It is no moment of
R47; a look outstanding stands only while there is still something to take (log 9). -/
def State.jump (new : Tick) (s : State) : State :=
  let s1 := { s with
    time := { s.time with tick := new, divider := 0 }
    flight := { s.flight with jumps := s.flight.jumps ++ [new], markClears := s.flight.markClears + 1 } }
  { s1 with fire := { s1.fire with look := s1.fire.look && s1.workWaiting } }

/-- TICK counts (R3); it does not while the part is held in reset (R139). -/
def State.counting (s : State) : Bool := s.sched.state != .stopped && s.sched.hold.isNone

/-- One TRAIL slot disposed of at the entry of HALTED, without its trailing edge (R131). -/
def State.convertTrail (s : State) (n : SlotNo) : State × List Notice :=
  let sl := s.slots[n]
  match sl.place with
  | .queued _ (.trail leadDue suspend) =>
    match sl.record.period with
    | none => (s.putFree n, [s.slotNotice n .aborted (byteOf sl.record.action.target)])
    | some _ => s.complete n sl suspend leadDue
  | _ => (s, [])

/-- The TRAIL conversion (R131): every QUEUED slot in phase TRAIL, in due queue order. -/
def State.convertTrails (s : State) : State × List Notice :=
  (s.fire.dueQueue.filter fun n => s.slots[n].isTrail).foldl
    (fun (acc : State × List Notice) n =>
      let (s', told) := acc.1.convertTrail n
      (s', acc.2 ++ told))
    (s, [])

/-- A notice without a handle, at TICK (R164). -/
def State.plainNotice (s : State) (kind : NoticeKind) (detail : Byte) : Notice :=
  { kind := kind, handle := none, time := s.time.tick, detail := detail }

/-- The entry of HALTED (R130): the state, the forcing and the conversion in one step, the notices as one hand-off, and the requests to
the interrupt logic and the frame channel. At a release from reset the hand-off is to be stored first (R140). -/
def State.enterHalted (s : State) (atRelease : Bool := false) : State :=
  let entered := s.plainNotice .haltEntered (byteOf s.sched.state.code)
  let s1 := { s with sched := { s.sched with state := .halted }, out := s.out.force }
  let (s2, told) := s1.convertTrails
  let s3 := { s2 with flight := { s2.flight with frameCtl := s2.flight.frameCtl ++ [FrameCtl.halt] } }
  ((s3.handNotices .scheduler (entered :: told) atRelease).requestFlag .halt).atMoment

/-! ### Resets (section 7.7) -/

/-- The reset step (R139): every block takes its reset values (R17, R40, R46, R82, R107, R122, R146, R176) and every hand-off on its way is
abandoned. The tags and the frames' bytes are given; the pins and the queue of commands are not the part's to reset. -/
def State.resetStep (keep : Bool) (hold : Option ResetHold) (s : State) : State :=
  { time := .reset s.pins.sync
    slots := Vector.ofFn fun n : SlotNo => Slot.freed (if keep then s.slots[n].tag else 0)
    fire := .reset
    out := .reset
    cap := .reset s.pins.cap
    chan := .reset (Vector.ofFn fun f : FrameNo => if keep then { bytes := s.chan.frames[f].bytes, lock := 0 } else Frame.empty)
    sched := .reset s.pins.haltAsserted hold
    engine := .reset
    notes := .reset
    pins := s.pins
    lastRead := none
    flight := .none
    pending := s.pending }

/-- The reset release (R140): the edge detectors and the accepted levels take the levels of their pins, and the part enters HALTED when
HALT# is asserted. -/
def State.release (pins : PinLevels) (s : State) : State :=
  let s1 := { s with
    pins := pins
    time := { s.time with syncSeen := pins.sync }
    cap := { s.cap with lines := Vector.ofFn fun c : CapNo => { s.cap.lines[c] with accepted := pins.cap.getLsbD c.val } }
    sched := { s.sched with haltSeen := pins.haltAsserted, hold := none } }
  if pins.haltAsserted then s1.enterHalted (atRelease := true) else s1

/-! ### The command engine's protocol (section 8.1) -/

/-- A CMD write (R141, R142, R143): accepted while READY, refused with CMD_REFUSED while BUSY, ignored while the part is held in reset. A
code that names no command has no action step: its result is BAD_CMD. -/
def State.cmdWrite (code : Byte) (s : State) : State :=
  if s.sched.hold.isSome then s
  else if s.engine.busy then s.requestFlag .cmdRefused
  else
    { s with engine := { s.engine with
        snapshot := s.engine.staging
        current := code
        result := .none
        state := if commandCodes.contains code then .accepted else .acted .badCmd zeros16 } }

/-- The accepted command with this code waits for its action step. DESIGN CHOICE (log 1): an action step given otherwise changes nothing. -/
def State.awaits (code : Byte) (s : State) : Bool := s.engine.state == .accepted && s.engine.current == code

/-- The action step has fixed the result (R143). -/
def State.acted (code : ResultCode) (bytes : List Byte) (s : State) : State :=
  { s with engine := { s.engine with state := .acted code (windowOf bytes) } }

/-- The completion (R144): result code, result window, READY, and the request for CMD_DONE. -/
def State.completeCommand (code : ResultCode) (window : Bytes16) (s : State) : State :=
  { s with engine := { s.engine with state := .ready, result := code, window := window } }.requestFlag .cmdDone

/-- START's result window after a drain or its cut (R125): the state found (HALTED), the drain count, the overdue length. -/
def State.drainBytes (s : State) : List Byte :=
  let count : BitVec 16 := BitVec.ofNat 16 s.sched.drainCount
  [2, count.extractLsb' 0 8, count.extractLsb' 8 8, byteOf s.fire.overdue.length]

end Sys2Proof.Machine
end

