-- ==== Sys2Proof/Machine/Firing.lean ====
section
/-! DEFINITION. The commands of the firing unit (chapter 3, sections 7.5 and 7.6): FIRING, DIVERSION, DRAIN_STEP, DRAIN_END, RETURN_TO_IDLE. -/

namespace Sys2Proof.Machine

open Sys2Proof

/-- The unit is IDLE with a look outstanding (R47). -/
def State.canLook (s : State) : Bool := s.fire.unit == .idle && s.fire.look

/-- The due head that the unit fires (R47): any head in RUNNING, a TRAIL head in RECOVERING. -/
def State.firingHead (s : State) : Option SlotNo :=
  match s.fire.dueQueue with
  | [] => none
  | n :: _ =>
    if s.canLook && s.headDue && (s.sched.state == .running || (s.sched.state == .recovering && s.slots[n].isTrail)) then some n
    else none

/-- The entry taken and handled by its phase and distance (R48, R51), with the notices of the firing in the order of R68. -/
def State.fireHead (n : SlotNo) (s : State) : State :=
  let sl := s.slots[n]
  let s1 := s.beginFiring
  match sl.place with
  | .queued due .lead =>
    let (s2, told) := s1.takeLead n sl due (decide (distance due s.time.tick < 0))
    s2.handNotices .firing told
  | .queued due (.trail leadDue suspend) =>
    let (s2, told) := s1.takeTrail n sl due leadDue suspend
    s2.handNotices .firing told
  | _ => s1

/-- FIRING (R48). DESIGN CHOICE (log 1): with no due head to take, here and in the rows below, nothing changes. -/
def execFiring (s : State) : Host.Outcome State Fault Refusal :=
  match s.firingHead with
  | some n => .next (s.fireHead n)
  | none => .next s

/-- The due LEAD head that is diverted in HALTED or RECOVERING (R47, R134). -/
def State.diversionHead (s : State) : Option SlotNo :=
  match s.fire.dueQueue with
  | [] => none
  | n :: _ =>
    if s.canLook && s.headDue && (s.sched.state == .halted || s.sched.state == .recovering) && !s.slots[n].isTrail then some n
    else none

/-- The head moved to the overdue tail with its due, record and handle unchanged (R134). -/
def State.divertHead (n : SlotNo) (s : State) : State :=
  let sl := s.slots[n]
  match sl.place with
  | .queued due _ => s.beginFiring.putOverdue n sl due
  | _ => s.beginFiring

/-- DIVERSION (R134). -/
def execDiversion (s : State) : Host.Outcome State Fault Refusal :=
  match s.diversionHead with
  | some n => .next (s.divertHead n)
  | none => .next s

/-- The overdue head that a drain step takes: RECOVERING, and no due queue head is due (R136). -/
def State.drainHead (s : State) : Option SlotNo :=
  if s.canLook && s.sched.state == .recovering && !s.headDue then s.fire.overdue.head? else none

/-- One drain step (R136): the overdue head handled as a late LEAD entry, and the drain count raised. -/
def State.drainOne (n : SlotNo) (s : State) : State :=
  let sl := s.slots[n]
  let s1 := { s.beginFiring with sched := { s.sched with drainCount := min (s.sched.drainCount + 1) Config.countMax } }
  match sl.place with
  | .overdue due =>
    let (s2, told) := s1.takeLead n sl due true
    s2.handNotices .firing told
  | _ => s1

/-- DRAIN_STEP (R136). -/
def execDrainStep (s : State) : Host.Outcome State Fault Refusal :=
  match s.drainHead with
  | some n => .next (s.drainOne n)
  | none => .next s

/-- The drain has come to its end (R137): no due head, and the overdue list is empty. -/
def State.drainOver (s : State) : Bool :=
  s.canLook && s.sched.state == .recovering && !s.headDue && s.fire.overdue.isEmpty

/-- DRAIN_END (R137): RUNNING, RECOVERED, and START completes with OK in the same step (log 10). -/
def execDrainEnd (s : State) : Host.Outcome State Fault Refusal :=
  if s.drainOver then
    let s1 := { s with sched := { s.sched with state := .running } }
    let s2 := s1.handNotices .scheduler [s.plainNotice .recovered (cappedByte s.sched.drainCount)]
    .next (s2.completeCommand .ok (windowOf s.drainBytes)).atMoment
  else .next s

/-- The firing unit IDLE again; it looks at the head (R47, R48). -/
def State.unitIdle (s : State) : State := { s with fire := { s.fire with unit := .idle } }.atMoment

/-- RETURN_TO_IDLE (R48). -/
def execReturnToIdle (s : State) : Host.Outcome State Fault Refusal :=
  match s.fire.unit with
  | .idle => .next s
  | .firing _ => .next s.unitIdle

end Sys2Proof.Machine
end

