-- ==== Sys2Proof/Machine/Capture.lean ====
section
/-! DEFINITION. The commands of the capture block (chapter 5): EDGE_ACCEPTED, GATE_REQUEST, PARK_LIST_APPEND, CAPTURE_TIME_JUMP, CAP_SETUP. -/

namespace Sys2Proof.Machine

open Sys2Proof

/-- A capture line replaced. -/
def State.setCapLine (c : CapNo) (l : CapLine) (s : State) : State :=
  { s with cap := { s.cap with lines := s.cap.lines.set c.val l c.isLt } }

/-- One sample applied to a line (R84, R85), with the timestamp of the edge it makes the line accept. The acceptance sets the accepted level
to the candidate level and returns the filter to idle. -/
def CapLine.sample (tick : Tick) (level : Bool) (l : CapLine) : CapLine × Option Tick :=
  match l.filter with
  | .idle =>
    if level = l.accepted then (l, none)
    else if l.filterLength = 0 then ({ l with accepted := level }, some tick)
    else ({ l with filter := .running tick 0 }, none)
  | .running transition count =>
    if level = l.accepted then ({ l with filter := .idle }, none)
    else if l.filterLength ≤ count + 1 then ({ l with accepted := level, filter := .idle }, some transition)
    else ({ l with filter := .running transition (count + 1) }, none)

/-- The sample of one line in a tick event (R83). -/
def State.lineSample (ts : TickSample) (s : State) (c : CapNo) : CapLine × Option Tick :=
  s.cap.lines[c].sample ts.tick (ts.samples.getLsbD c.val)

/-- The counted edges of a tick event, in ascending line number, each with its timestamp (R86, R87). -/
def State.countedEdges (ts : TickSample) (s : State) : List (CapNo × Tick) :=
  allCaps.filterMap fun c =>
    let (l, edge) := s.lineSample ts c
    if l.select.admits l.accepted then edge.map fun t => (c, t) else none

/-- Some line accepts an edge in the tick event, counted or not (R85). -/
def State.acceptsEdge (ts : TickSample) (s : State) : Bool :=
  allCaps.any fun c => (s.lineSample ts c).2.isSome

/-- A counted edge stored in the capture log, or lost when the log is full (R94, R95). -/
def State.storeLog (c : CapNo) (rise : Bool) (timestamp : Tick) (s : State) : State :=
  if s.cap.log.length < Config.captureCapacity then
    { s with cap := { s.cap with
        log := s.cap.log ++ [{ line := c, rise := rise, timestamp := timestamp, gap := s.cap.gapPending }]
        gapPending := false } }
  else
    { s with cap := { s.cap with clost := min (s.cap.clost + 1) Config.byteMax, gapPending := true } }.requestFlag .captureLost

/-- One slot of a released list: QUEUED in phase LEAD, due at the timestamp plus its offset (R101). -/
def State.releaseSlot (timestamp : Tick) (s : State) (n : SlotNo) : State :=
  s.putQueued n s.slots[n] (timestamp + s.slots[n].record.start.value) .lead

/-- The park list released by a counted edge, head to tail, and the closure of a one-shot gate (R101, R102). -/
def State.releaseList (c : CapNo) (timestamp : Tick) (s : State) : State :=
  let s1 := s.cap.parks[c].foldl (State.releaseSlot timestamp) s
  if s1.cap.lines[c].oneShot then s1.setCapLine c { s1.cap.lines[c] with gateOpen := false } else s1

/-- One counted edge: logged when the line's log enable is yes, and its list released through an OPEN gate in RUNNING or RECOVERING (R87). -/
def State.handleEdge (s : State) (edge : CapNo × Tick) : State :=
  let l := s.cap.lines[edge.1]
  let s1 := if l.logEnable then s.storeLog edge.1 l.accepted edge.2 else s
  if l.gateOpen && (s.sched.state == .running || s.sched.state == .recovering) then s1.releaseList edge.1 edge.2 else s1

/-- The capture block's step on one tick event, whole (R87): the eight samples, then the counted edges in ascending line number. -/
def State.applyTick (ts : TickSample) (s : State) : State :=
  let s1 := { s with cap := { s.cap with lines := Vector.ofFn fun c : CapNo => (s.lineSample ts c).1 } }
  (s.countedEdges ts).foldl State.handleEdge s1

/-- The capture block takes the oldest tick event delivered to it, if there is one (R87, R89). -/
def State.takeTick (s : State) : State :=
  match s.flight.ticks with
  | [] => s
  | ts :: rest => { s with flight := { s.flight with ticks := rest } }.applyTick ts

/-- EDGE_ACCEPTED (R85, R87): the capture block takes a tick event in which a line's filter reaches its confirming count. -/
def execEdgeAccepted (s : State) : Host.Outcome State Fault Refusal :=
  match s.flight.ticks with
  | [] => .next s
  | ts :: _ => .next (if s.acceptsEdge ts then s.takeTick else s)

/-- GATE_REQUEST (R97): the line's gate set to the requested value. -/
def execGateRequest (s : State) : Host.Outcome State Fault Refusal :=
  match s.flight.gates with
  | [] => .next s
  | r :: rest =>
    .next ({ s with flight := { s.flight with gates := rest } }.setCapLine r.line { s.cap.lines[r.line] with gateOpen := r.opens })

/-- PARK_LIST_APPEND (R99): the append of a slot that the block parking it hands over. The steps that park a slot make it in the step of the
slot's change of state (R62, R99), so that as a command of its own it finds the slot in its list already (log 6). -/
def execParkListAppend (slot : SlotNo) (s : State) : Host.Outcome State Fault Refusal := .next (s.appendPark slot)

/-- A filter in progress restarted by a time jump (R88): candidate kept, T the new TICK, count 0. -/
def CapLine.restart (new : Tick) (l : CapLine) : CapLine :=
  match l.filter with
  | .idle => l
  | .running _ _ => { l with filter := .running new 0 }

/-- CAPTURE_TIME_JUMP (R88). -/
def execCaptureTimeJump (s : State) : Host.Outcome State Fault Refusal :=
  match s.flight.jumps with
  | [] => .next s
  | new :: rest =>
    .next { s with
      flight := { s.flight with jumps := rest }
      cap := { s.cap with lines := Vector.ofFn fun c : CapNo => s.cap.lines[c].restart new } }

/-- The number of the first byte of CAP_SETUP found illegal, in the order 0, 6, 1, 2, 3, 4, 5 (R90); with request 1, bytes 1 to 5 are
not checked. -/
def capSetupFault (b : Bytes16) : Option Nat :=
  let load := b[6] == 0
  firstFailing
    [(0, decide (7 < b[0].toNat)),
     (6, decide (1 < b[6].toNat)),
     (1, load && decide (3 < b[1].toNat)),
     (2, load && decide (15 < b[2].toNat)),
     (3, load && decide (1 < b[3].toNat)),
     (4, load && decide (1 < b[4].toNat)),
     (5, load && decide (1 < b[5].toNat))]

/-- The result of a legal CAP_SETUP: the line as the command found it (R92). -/
def State.capLineBytes (c : CapNo) (s : State) : List Byte :=
  let l := s.cap.lines[c]
  [byteOf l.select.code, byteOf l.filterLength, flagByte l.logEnable, flagByte l.gateOpen, flagByte l.oneShot, flagByte l.accepted,
   flagByte (l.filter != .idle), byteOf s.cap.parks[c].length]

/-- A capture line loaded by CAP_SETUP (R91): the five items of its configuration, and a filter in progress abandoned. -/
def CapLine.load (b : Bytes16) (l : CapLine) : CapLine :=
  { l with
    select := EdgeSelect.ofCode b[1].toNat
    filterLength := b[2].toNat
    logEnable := b[3] == 1
    gateOpen := b[4] == 1
    oneShot := b[5] == 1
    filter := .idle }

/-- The action step of CAP_SETUP (R90 to R92). -/
def capSetupAction (s : State) : State :=
  let b := s.engine.snapshot
  match capSetupFault b with
  | some i => s.acted .badArg [byteOf i]
  | none =>
    let c : CapNo := Fin.ofNat 8 b[0].toNat
    let found := s.capLineBytes c
    if b[6] = 0 then (s.setCapLine c (s.cap.lines[c].load b)).acted .ok found else s.acted .ok found

/-- CAP_SETUP, code 0x28 (R90). -/
def execCapSetup (part : CommandStep) (s : State) : Host.Outcome State Fault Refusal :=
  match part with
  | .write => .next (s.cmdWrite 0x28)
  | .action => .next (if s.awaits 0x28 then capSetupAction s else s)

end Sys2Proof.Machine
end

