-- ==== Sys2Proof/Machine/Scheduler.lean ====
section
/-! DEFINITION. The commands of scheduler control (chapter 7): HALT_ASSERTION, HALT_RELEASE, POWER_ON_RESET, RST_PIN_RESET, RESET_RELEASE,
START, STOP, CLEAR, RESET. -/

namespace Sys2Proof.Machine

open Sys2Proof

/-- An assertion event of HALT# taken by scheduler control (R130, R132, R138): the entry of HALTED, with START cut off when it was draining;
in HALTED after a release, HALT_ENTERED and the flag request alone. -/
def State.haltAsserted (s : State) : State :=
  let s1 := { s with pins := { s.pins with haltAsserted := true }, sched := { s.sched with haltSeen := true } }
  match s.sched.state with
  | .halted => (s1.handNotices .scheduler [s1.plainNotice .haltEntered 2]).requestFlag .halt
  | .recovering =>
    let s2 := s1.enterHalted
    match s.engine.state with
    | .draining => s2.completeCommand .haltActive (windowOf s2.drainBytes)
    | _ => s2
  | .stopped => s1.enterHalted
  | .running => s1.enterHalted

/-- HALT_ASSERTION (R129, R130): a sample at the asserted level that follows a released one. While the part is held in reset only the pin
moves (R139). -/
def execHaltAssertion (s : State) : Host.Outcome State Fault Refusal :=
  if s.sched.hold.isSome then .next { s with pins := { s.pins with haltAsserted := true } }
  else if s.sched.haltSeen then .next s
  else .next s.haltAsserted

/-- HALT_RELEASE (R129, R132): HALT_RELEASED while HALTED; the state stays. -/
def execHaltRelease (s : State) : Host.Outcome State Fault Refusal :=
  if s.sched.hold.isSome then .next { s with pins := { s.pins with haltAsserted := false } }
  else if s.sched.haltSeen then
    let s1 := { s with pins := { s.pins with haltAsserted := false }, sched := { s.sched with haltSeen := false } }
    .next (if s.sched.state == .halted then s1.handNotices .scheduler [s1.plainNotice .haltReleased 0] else s1)
  else .next s

/-- POWER_ON_RESET (R139): tags 0 and frames empty; the part is held in reset. -/
def execPowerOnReset (s : State) : Host.Outcome State Fault Refusal := .next (s.resetStep false (some .powerOn))

/-- RST_PIN_RESET (R139): tags and frames kept; the part is held in reset. -/
def execRstPinReset (s : State) : Host.Outcome State Fault Refusal := .next (s.resetStep true (some .rstPin))

/-- RESET_RELEASE (R140): the end of the hold. -/
def execResetRelease (pins : PinLevels) (s : State) : Host.Outcome State Fault Refusal :=
  if s.sched.hold.isSome then .next (s.release pins) else .next s

/-- The action step of START (R124, R125, R135). DEDUCED (log 21): no test of HALT# in STOPPED, and STATE in RECOVERING, which cannot arise. -/
def startAction (s : State) : State :=
  match s.sched.state with
  | .stopped => ({ s with sched := { s.sched with state := .running } }.acted .ok []).atMoment
  | .halted =>
    if s.sched.haltSeen then s.acted .haltActive [2, 0, 0, byteOf s.fire.overdue.length]
    else
      { s with
        sched := { s.sched with state := .recovering, drainCount := 0 }
        out := s.out.endHold
        flight := { s.flight with frameCtl := s.flight.frameCtl ++ [FrameCtl.finish] }
        engine := { s.engine with state := .draining } }.atMoment
  | .running => s.acted .state []
  | .recovering => s.acted .state []

/-- START, code 0x38 (R124). -/
def execStart (part : CommandStep) (s : State) : Host.Outcome State Fault Refusal :=
  match part with
  | .write => .next (s.cmdWrite 0x38)
  | .action => .next (if s.awaits 0x38 then startAction s else s)

/-- The action step of STOP (R126): the due queue length and the number of its entries in phase TRAIL. -/
def stopAction (s : State) : State :=
  match s.sched.state with
  | .running =>
    { s with
      sched := { s.sched with state := .stopped }
      fire := { s.fire with look := false } }.acted .ok
        [byteOf s.fire.dueQueue.length, byteOf (s.fire.dueQueue.filter fun n : SlotNo => s.slots[n].isTrail).length]
  | _ => s.acted .state []

/-- STOP, code 0x39 (R126). -/
def execStop (part : CommandStep) (s : State) : Host.Outcome State Fault Refusal :=
  match part with
  | .write => .next (s.cmdWrite 0x39)
  | .action => .next (if s.awaits 0x39 then stopAction s else s)

/-- The counts that CLEAR and CANCEL_GROUP report of the slots they free (R128, R151): in all, from the due queue, the overdue list, the park
lists and the held set, and those in phase TRAIL. -/
def State.freedCounts (ns : List SlotNo) (s : State) : List Byte :=
  let count (p : Slot → Bool) : Byte := byteOf (ns.filter fun n => p s.slots[n]).length
  [byteOf ns.length, count Slot.isQueued, count Slot.isOverdue, count Slot.isParked, count Slot.isHeld, count Slot.isTrail]

/-- The slots freed one after another, in one claim (R19). -/
def State.freeAll (ns : List SlotNo) (s : State) : State := ns.foldl (fun t n => t.putFree n) s

/-- The action step of CLEAR (R128): every slot that is not FREE is freed, with no notice and no restore request. -/
def clearAction (s : State) : State :=
  let used := allSlots.filter fun n => s.slots[n].inUse
  (s.freeAll used).acted .ok (s.freedCounts used)

/-- CLEAR, code 0x3A (R128). -/
def execClear (part : CommandStep) (s : State) : Host.Outcome State Fault Refusal :=
  match part with
  | .write => .next (s.cmdWrite 0x3A)
  | .action => .next (if s.awaits 0x3A then clearAction s else s)

/-- The action step of RESET (R139, R140, R161): the reset step with tags and frames kept and the engine BUSY with code 0x3F, then the
release with the pins as they stand. The completion follows (R144). -/
def resetAction (pins : PinLevels) (s : State) : State :=
  let s1 := s.resetStep true none
  { s1 with engine := { s1.engine with current := 0x3F, state := .acted .ok zeros16 } }.release pins

/-- RESET, code 0x3F (R161). -/
def execReset (part : ResetStep) (s : State) : Host.Outcome State Fault Refusal :=
  match part with
  | .write => .next (s.cmdWrite 0x3F)
  | .action pins => .next (if s.awaits 0x3F then resetAction pins s else s)

end Sys2Proof.Machine
end

