-- ==== Sys2Proof/Machine/Engine.lean ====
section
/-! DEFINITION. The slot commands and the protocol commands of the command engine (chapter 8): POST, CANCEL, AMEND, READ_SLOT, CANCEL_GROUP,
SUSPEND_GROUP, RESUME_GROUP, QUERY, BAD_CMD, CMD_WRITE_REFUSED, COMMAND_COMPLETION. -/

namespace Sys2Proof.Machine

open Sys2Proof

/-! ### POST -/

/-- The next tag of a slot: 255 is followed by 1 (R20). -/
def nextTag (tag : Byte) : Byte := if tag = 255 then 1 else tag + 1

/-- The slot as POST writes it, before it is placed (R22). -/
def Slot.posted (tag : Byte) (r : Record) : Slot :=
  { tag := nextTag tag, place := .free, record := r, repeats := r.repeatsPosted, occurrences := 0 }

/-- The lowest-numbered FREE slot (R22). -/
def State.lowestFree (s : State) : Option SlotNo := allSlots.find? fun n => !s.slots[n].inUse

/-- The action step of POST (R22, R32, R148). -/
def postAction (s : State) : State :=
  let b := s.engine.snapshot
  match recordFault b s.time.tick with
  | some i => s.acted .badArg [byteOf i]
  | none =>
    match s.lowestFree with
    | none => s.acted .noSlot []
    | some n =>
      let sl := Slot.posted s.slots[n].tag (Layout.record b)
      match sl.record.start with
      | .absolute due => (s.putQueued n sl due .lead).acted .ok ([byteOf n.val, sl.tag] ++ bytes32 due)
      | .relative offset =>
        (s.putQueued n sl (s.time.tick + offset) .lead).acted .ok ([byteOf n.val, sl.tag] ++ bytes32 (s.time.tick + offset))
      | .parked _ _ _ => (s.putParked n sl).acted .ok [byteOf n.val, sl.tag]

/-- POST, code 0x10 (R148). -/
def execPost (part : CommandStep) (s : State) : Host.Outcome State Fault Refusal :=
  match part with
  | .write => .next (s.cmdWrite 0x10)
  | .action => .next (if s.awaits 0x10 then postAction s else s)

/-! ### CANCEL and CANCEL_GROUP -/

/-- The restore request of a cancelled slot, when it was QUEUED in phase TRAIL and restore is in force (R75, R150). -/
def State.restoreRequest (override : Bool) (s : State) (n : SlotNo) : Option EdgeRequest :=
  match s.slots[n].record.action with
  | .pulse line active _ restore =>
    if s.slots[n].isTrail && (restore || override) then
      some { line := line, drive := .level (!active), handle := s.handle n, tick := s.time.tick }
    else none
  | _ => none

/-- Restore requests handed to the output block, in this order (R75, R151). -/
def State.handRestores (rs : List EdgeRequest) (s : State) : State :=
  { s with flight := { s.flight with restores := s.flight.restores ++ rs } }

/-- The action step of CANCEL (R150). -/
def cancelAction (s : State) : State :=
  let b := s.engine.snapshot
  match s.liveSlot b[0] b[1] with
  | none => s.acted .gone []
  | some n =>
    if 1 < b[2].toNat then s.acted .badArg [2]
    else
      let restore := s.restoreRequest (b[2] == 1) n
      ((s.putFree n).handRestores restore.toList).acted .ok
        [byteOf s.slots[n].stateCode, flagByte s.slots[n].isTrail, flagByte restore.isSome]

/-- CANCEL, code 0x11 (R150). -/
def execCancel (part : CommandStep) (s : State) : Host.Outcome State Fault Refusal :=
  match part with
  | .write => .next (s.cmdWrite 0x11)
  | .action => .next (if s.awaits 0x11 then cancelAction s else s)

/-- The action step of CANCEL_GROUP (R151). -/
def cancelGroupAction (s : State) : State :=
  let b := s.engine.snapshot
  if 1 < b[1].toNat then s.acted .badArg [1]
  else
    let ns := s.selected b[0]
    let restores := ns.filterMap (s.restoreRequest (b[1] == 1))
    ((s.freeAll ns).handRestores restores).acted .ok (s.freedCounts ns ++ [byteOf restores.length])

/-- CANCEL_GROUP, code 0x18 (R151). -/
def execCancelGroup (part : CommandStep) (s : State) : Host.Outcome State Fault Refusal :=
  match part with
  | .write => .next (s.cmdWrite 0x18)
  | .action => .next (if s.awaits 0x18 then cancelGroupAction s else s)

/-! ### AMEND -/

/-- The slot state takes no AMEND with this due change (R153): QUEUED in TRAIL, OVERDUE, or a new due for a slot that waits in a park list or
is to return to one. -/
def amendRefused (dueChange : Nat) (sl : Slot) : Bool :=
  match sl.place with
  | .free => true
  | .queued _ .lead => false
  | .queued _ (.trail _ _) => true
  | .overdue _ => true
  | .parked => dueChange == 1 || dueChange == 2
  | .held .park => dueChange == 1 || dueChange == 2
  | .held _ => false

/-- The slot with the schedule change and a new park offset stored (R154); repeats is set with repeats as posted. -/
def amendedSlot (b : Bytes16) (sl : Slot) : Slot :=
  let r := amendedSchedule b sl.record
  { sl with
    record := if Layout.dueChange b = 3 then { r with start := r.start.withOffset (Layout.value b) } else r
    repeats := if Layout.scheduleChange b = 1 then r.repeatsPosted else sl.repeats }

/-- The AMEND applied by slot state (R154). -/
def State.amendSlot (n : SlotNo) (b : Bytes16) (s : State) : State :=
  let sl := amendedSlot b s.slots[n]
  let newDue (due : Tick) : Tick :=
    if Layout.dueChange b = 1 then Layout.value b
    else if Layout.dueChange b = 2 then s.time.tick + Layout.value b
    else due
  match sl.place with
  | .queued due .lead => s.putQueued n sl (newDue due) .lead
  | .held (.queue remaining) =>
    let left :=
      if Layout.dueChange b = 1 then Layout.value b - s.time.tick
      else if Layout.dueChange b = 2 then Layout.value b
      else remaining
    s.setSlot n { sl with place := .held (.queue left) }
  | _ => s.setSlot n sl

/-- The result of an AMEND performed: the slot state, and the due of a QUEUED slot or the remaining of a HELD one (R154). -/
def State.amendBytes (n : SlotNo) (s : State) : List Byte := byteOf s.slots[n].stateCode :: bytes32 s.slots[n].dueOrRemaining

/-- The action step of AMEND (R153, R154): the tests in their order, then the change. -/
def amendAction (s : State) : State :=
  let b := s.engine.snapshot
  match s.liveSlot b[0] b[1] with
  | none => s.acted .gone []
  | some n =>
    if 3 < Layout.dueChange b ∨ 1 < Layout.scheduleChange b then s.acted .badArg [14]
    else if amendRefused (Layout.dueChange b) s.slots[n] then s.acted .state []
    else if Layout.dueChange b = 3 ∧ s.slots[n].record.start.parkLine = none then s.acted .badArg [15]
    else
      match amendFault b s.slots[n].record s.time.tick with
      | some i => s.acted .badArg [byteOf i]
      | none => let s1 := s.amendSlot n b; s1.acted .ok (s1.amendBytes n)

/-- AMEND, code 0x12 (R153). -/
def execAmend (part : CommandStep) (s : State) : Host.Outcome State Fault Refusal :=
  match part with
  | .write => .next (s.cmdWrite 0x12)
  | .action => .next (if s.awaits 0x12 then amendAction s else s)

/-! ### SUSPEND_GROUP and RESUME_GROUP -/

/-- One selected slot suspended (R156): LEAD and PARKED slots are held, a TRAIL slot is marked, the others stay. -/
def State.suspendSlot (s : State) (n : SlotNo) : State :=
  let sl := s.slots[n]
  match sl.place with
  | .queued due .lead => s.putHeld n sl (.queue (due - s.time.tick))
  | .queued due (.trail leadDue _) => s.setSlot n { sl with place := .queued due (.trail leadDue true) }
  | .parked => s.putHeld n sl .park
  | _ => s

/-- The action step of SUSPEND_GROUP (R156). -/
def suspendGroupAction (s : State) : State :=
  let ns := s.selected s.engine.snapshot[0]
  let count (p : Slot → Bool) : Byte := byteOf (ns.filter fun n => p s.slots[n]).length
  (ns.foldl State.suspendSlot s).acted .ok
    [count fun sl => (sl.isQueued && !sl.isTrail) || sl.isParked, count Slot.isTrail, count Slot.isOverdue]

/-- SUSPEND_GROUP, code 0x19 (R156). -/
def execSuspendGroup (part : CommandStep) (s : State) : Host.Outcome State Fault Refusal :=
  match part with
  | .write => .next (s.cmdWrite 0x19)
  | .action => .next (if s.awaits 0x19 then suspendGroupAction s else s)

/-- One selected slot resumed (R157): by its resume point when it is HELD; a TRAIL slot's suspend-pending flag is cleared. DESIGN CHOICE (log 31):
with remaining 0 the slot is taken on time or late as its distance then is, where R157 says late. -/
def State.resumeSlot (s : State) (n : SlotNo) : State :=
  let sl := s.slots[n]
  match sl.place with
  | .held (.queue remaining) => s.putQueued n sl (s.time.tick + remaining) .lead
  | .held .park => s.putParked n sl
  | .held .atEnd =>
    if sl.record.start.rearm then s.putParked n { sl with repeats := sl.record.repeatsPosted } else s.putFree n
  | .queued due (.trail leadDue _) => s.setSlot n { sl with place := .queued due (.trail leadDue false) }
  | _ => s

/-- The DONE notice of a slot whose deferred finish RESUME_GROUP carries out (R157). -/
def State.resumeNotice (s : State) (n : SlotNo) : List Notice :=
  match s.slots[n].place with
  | .held .atEnd => s.doneNotice n s.slots[n]
  | _ => []

/-- HELD with this resume point code (R147). -/
def Slot.heldWith (code : Nat) (sl : Slot) : Bool := sl.isHeld && sl.resumeCode == code

/-- The action step of RESUME_GROUP (R157). -/
def resumeGroupAction (s : State) : State :=
  let ns := s.selected s.engine.snapshot[0]
  let count (p : Slot → Bool) : Byte := byteOf (ns.filter fun n => p s.slots[n]).length
  ((ns.foldl State.resumeSlot s).handNotices .engine (ns.flatMap s.resumeNotice)).acted .ok
    [count Slot.isHeld, count (Slot.heldWith 0), count (Slot.heldWith 1), count (Slot.heldWith 2), count Slot.suspendPending]

/-- RESUME_GROUP, code 0x1A (R157). -/
def execResumeGroup (part : CommandStep) (s : State) : Host.Outcome State Fault Refusal :=
  match part with
  | .write => .next (s.cmdWrite 0x1A)
  | .action => .next (if s.awaits 0x1A then resumeGroupAction s else s)

/-! ### READ_SLOT and QUERY -/

/-- The action step of READ_SLOT (R159). -/
def readSlotAction (s : State) : State :=
  let b := s.engine.snapshot
  match s.liveSlot b[0] b[1] with
  | none => s.acted .gone []
  | some n =>
    if b[2] = 0 then s.acted .ok s.slots[n].recordBytes
    else if b[2] = 1 then s.acted .ok s.slots[n].runtimeBytes
    else s.acted .badArg [2]

/-- READ_SLOT, code 0x13 (R159). -/
def execReadSlot (part : CommandStep) (s : State) : Host.Outcome State Fault Refusal :=
  match part with
  | .write => .next (s.cmdWrite 0x13)
  | .action => .next (if s.awaits 0x13 then readSlotAction s else s)

/-- The number of slots that satisfy the test. -/
def State.countSlots (p : Slot → Bool) (s : State) : Nat := (allSlots.filter fun n => p s.slots[n]).length

/-- The report of QUERY (R160, R183). -/
def State.queryBytes (s : State) : List Byte :=
  [byteOf (s.countSlots fun sl => !sl.inUse), byteOf s.fire.dueQueue.length, byteOf s.fire.overdue.length,
   byteOf (s.countSlots Slot.isHeld)]
    ++ (allCaps.map fun c => byteOf s.cap.parks[c].length)
    ++ [byteOf s.chan.queue.length, byteOf s.sched.state.code]

/-- QUERY, code 0x1F (R160). -/
def execQuery (part : CommandStep) (s : State) : Host.Outcome State Fault Refusal :=
  match part with
  | .write => .next (s.cmdWrite 0x1F)
  | .action => .next (if s.awaits 0x1F then s.acted .ok s.queryBytes else s)

/-! ### The protocol -/

/-- BAD_CMD (R143): a CMD write of a code that names no command; its completion posts BAD_CMD. -/
def execBadCmd (code : Byte) (s : State) : Host.Outcome State Fault Refusal := .next (s.cmdWrite code)

/-- CMD_WRITE_REFUSED (R142): a CMD write that finds the engine BUSY. -/
def execCmdWriteRefused (code : Byte) (s : State) : Host.Outcome State Fault Refusal := .next (s.cmdWrite code)

/-- COMMAND_COMPLETION (R144): the result that the action step fixed is posted. -/
def execCommandCompletion (s : State) : Host.Outcome State Fault Refusal :=
  match s.engine.state with
  | .acted code window => .next (s.completeCommand code window)
  | _ => .next s

end Sys2Proof.Machine
end

