-- ==== Sys2Proof/Machine/Frame.lean ====
section
/-! DEFINITION. The commands of the frame channel (chapter 6): SEND_REQUEST, HALT_REQUEST, END_REQUEST, SHIFTER_START, HALF_BIT_END, FRAME_END,
ABORTED_FRAME_END, GAP_END, LOAD_FRAME, BDIV_WRITE, SCFG_WRITE, and the levels of the serial pins. -/

namespace Sys2Proof.Machine

open Sys2Proof

/-- A frame replaced. -/
def FrameChannel.setFrame (f : FrameNo) (fr : Frame) (c : FrameChannel) : FrameChannel :=
  { c with frames := c.frames.set f.val fr f.isLt }

/-- A frame's lock count raised by 1 (R108, R111). -/
def FrameChannel.lockFrame (f : FrameNo) (c : FrameChannel) : FrameChannel :=
  c.setFrame f { c.frames[f] with lock := c.frames[f].lock + 1 }

/-- A frame's lock count lowered by 1 (R108, R116, R118, R119). -/
def FrameChannel.unlockFrame (f : FrameNo) (c : FrameChannel) : FrameChannel :=
  c.setFrame f { c.frames[f] with lock := c.frames[f].lock - 1 }

/-- A notice of the frame channel about a request or entry (R121). -/
def entryNotice (kind : NoticeKind) (e : SendEntry) (time : Tick) (detail : Byte) : Notice :=
  { kind := kind, handle := some e.handle, time := time, detail := detail }

/-- A send request judged (R111): refused on an empty frame, under the halt hold or with the queue full, and appended otherwise. -/
def State.judgeSend (e : SendEntry) (s : State) : State :=
  if s.chan.frames[e.frame].bytes.isEmpty then
    s.handNotices .frame [entryNotice .frameEmpty e e.tick (byteOf e.frame.val)]
  else if s.chan.haltHold then s.handNotices .frame [entryNotice .sendAborted e e.tick 0]
  else if Config.sendCapacity ≤ s.chan.queue.length then
    s.handNotices .frame [entryNotice .sendDropped e e.tick (byteOf e.frame.val)]
  else { s with chan := { s.chan.lockFrame e.frame with queue := s.chan.queue ++ [e] } }

/-- SEND_REQUEST (R111): the frame channel takes the oldest send request. -/
def execSendRequest (s : State) : Host.Outcome State Fault Refusal :=
  match s.flight.sends with
  | [] => .next s
  | e :: rest => .next ({ s with flight := { s.flight with sends := rest } }.judgeSend e)

/-- The shifter at the halt request (R119): a frame in its lead-in or data becomes ABORTING; the rest is unchanged. -/
def Shift.abort (sh : Shift) : Shift :=
  match sh.phase with
  | .leadIn => { sh with aborting := true }
  | .data => { sh with aborting := true }
  | .leadOut => sh
  | .gap => sh

/-- The halt request taken (R118, R119): the hold in force, the send queue flushed from head to tail with SEND_ABORTED, the frame being
shifted aborted. -/
def State.takeHalt (s : State) : State :=
  let flushed := s.chan.queue.foldl (fun c e => c.unlockFrame e.frame) s.chan
  { s with chan := { flushed with queue := [], haltHold := true, shifter := s.chan.shifter.map Shift.abort } }.handNotices .frame
    (s.chan.queue.map fun e => entryNotice .sendAborted e e.tick 0)

/-- HALT_REQUEST (R118). DEDUCED (log 24): halt and end requests are taken in the order in which they were made. -/
def execHaltRequest (s : State) : Host.Outcome State Fault Refusal :=
  match s.flight.frameCtl with
  | .halt :: rest => .next { s with flight := { s.flight with frameCtl := rest } }.takeHalt
  | _ => .next s

/-- END_REQUEST (R120): the halt hold ends. -/
def execEndRequest (s : State) : Host.Outcome State Fault Refusal :=
  match s.flight.frameCtl with
  | .finish :: rest =>
    .next { s with flight := { s.flight with frameCtl := rest }, chan := { s.chan with haltHold := false } }
  | _ => .next s

/-- The shifter takes this entry and begins its lead-in, with the bit divider cleared (R115). -/
def Shift.begin (e : SendEntry) : Shift :=
  { aborting := false, entry := e, phase := .leadIn, bit := 0, secondHalf := false, bytesSent := 0 }

/-- The head entry taken from the send queue (R115). -/
def FrameChannel.takeEntry (e : SendEntry) (rest : List SendEntry) (c : FrameChannel) : FrameChannel :=
  { c with queue := rest, shifter := some (Shift.begin e), bitDivider := 0 }

/-- SHIFTER_START (R115): an IDLE shifter takes the head entry. -/
def execShifterStart (s : State) : Host.Outcome State Fault Refusal :=
  match s.chan.shifter, s.chan.queue with
  | none, e :: rest => .next { s with chan := s.chan.takeEntry e rest }
  | _, _ => .next s

/-- The end of the frame's lead-out is the end of the half bit in progress (R115). -/
def Shift.endsLeadOut (sh : Shift) : Bool := sh.phase == .leadOut && sh.secondHalf

/-- The end of the gap is the end of the half bit in progress (R116). -/
def Shift.endsGap (sh : Shift) : Bool := sh.phase == .gap && sh.secondHalf && decide (1 ≤ sh.bit)

/-- The gap of two bit times begins (R116, R119). -/
def Shift.toGap (sh : Shift) : Shift := { sh with phase := .gap, bit := 0, secondHalf := false }

/-- SFS deasserts at the end of the lead-out (R116, R119): the lock count falls and the gap begins. -/
def State.deassert (sh : Shift) (s : State) : State :=
  { s with chan := { s.chan.unlockFrame sh.entry.frame with shifter := some sh.toGap, bitDivider := 0 } }

/-- The end of a frame sent in full (R116): SENT when the entry's notify is not NONE. -/
def State.endFrame (sh : Shift) (s : State) : State :=
  (s.deassert sh).handNotices .frame
    (if sh.entry.notify = .never then [] else [entryNotice .sent sh.entry s.time.tick (byteOf sh.entry.frame.val)])

/-- FRAME_END (R116). -/
def execFrameEnd (s : State) : Host.Outcome State Fault Refusal :=
  match s.chan.shifter with
  | some sh => .next (if sh.endsLeadOut && !sh.aborting then s.endFrame sh else s)
  | none => .next s

/-- The end of an aborted frame (R119): SEND_ABORTED with the whole bytes sent. -/
def State.endAborted (sh : Shift) (s : State) : State :=
  (s.deassert sh).handNotices .frame [entryNotice .sendAborted sh.entry sh.entry.tick (byteOf sh.bytesSent)]

/-- ABORTED_FRAME_END (R119). -/
def execAbortedFrameEnd (s : State) : Host.Outcome State Fault Refusal :=
  match s.chan.shifter with
  | some sh => .next (if sh.endsLeadOut && sh.aborting then s.endAborted sh else s)
  | none => .next s

/-- The end of the gap (R116, R120): the next entry is taken, or the shifter is IDLE and asks for SERIAL_IDLE. -/
def State.endGap (s : State) : State :=
  match s.chan.queue with
  | e :: rest => { s with chan := s.chan.takeEntry e rest }
  | [] => { s with chan := { s.chan with shifter := none, bitDivider := 0 } }.requestFlag .serialIdle

/-- GAP_END (R116). -/
def execGapEnd (s : State) : Host.Outcome State Fault Refusal :=
  match s.chan.shifter with
  | some sh => .next (if sh.endsGap then s.endGap else s)
  | none => .next s

/-- The lead-out begins (R115, R119). -/
def Shift.toLeadOut (sh : Shift) : Shift := { sh with phase := .leadOut, bit := 0, secondHalf := false }

/-- The end of a bit time inside a frame of this length (R115, R119): lead-in to data, or to the lead-out when ABORTING; the next bit; at a
byte end the count of whole bytes sent rises, and the next byte or the lead-out follows. In the gap, the next bit time. -/
def Shift.nextBit (length : Nat) (sh : Shift) : Shift :=
  match sh.phase with
  | .leadIn => if sh.aborting then sh.toLeadOut else { sh with phase := .data, bit := 0, secondHalf := false }
  | .data =>
    if sh.bit < 7 then { sh with bit := sh.bit + 1, secondHalf := false }
    else
      let sent := sh.bytesSent + 1
      if sh.aborting || decide (length ≤ sent) then { sh.toLeadOut with bytesSent := sent }
      else { sh with bit := 0, secondHalf := false, bytesSent := sent }
  | .leadOut => sh
  | .gap => { sh with bit := sh.bit + 1, secondHalf := false }

/-- The end of a half bit (R113, R115). The half bits that end the lead-out and the gap end with FRAME_END, ABORTED_FRAME_END or GAP_END. -/
def State.endHalfBit (s : State) : State :=
  match s.chan.shifter with
  | none => s
  | some sh =>
    if sh.endsLeadOut || sh.endsGap then s
    else
      { s with chan := { s.chan with
          bitDivider := 0
          shifter := some (if sh.secondHalf then sh.nextBit s.chan.frames[sh.entry.frame].bytes.length else { sh with secondHalf := true }) } }

/-- HALF_BIT_END (R115). -/
def execHalfBitEnd (s : State) : Host.Outcome State Fault Refusal := .next s.endHalfBit

/-! ### The serial pins (R113, R114) -/

/-- SCK idle level: SCFG bit 0. -/
def FrameChannel.sckIdle (c : FrameChannel) : Bool := c.scfg.getLsbD 0

/-- The data change edge is LEAVE: SCFG bit 1. -/
def FrameChannel.changeOnLeave (c : FrameChannel) : Bool := c.scfg.getLsbD 1

/-- LSB first: SCFG bit 2. -/
def FrameChannel.lsbFirst (c : FrameChannel) : Bool := c.scfg.getLsbD 2

/-- SFS is active low: SCFG bit 3. -/
def FrameChannel.sfsActiveLow (c : FrameChannel) : Bool := c.scfg.getLsbD 3

/-- The level of SCK (R114): away from idle in the second half of a data bit time with RETURN, in the first half with LEAVE. -/
def FrameChannel.sck (c : FrameChannel) : Bool :=
  match c.shifter with
  | some sh => if sh.phase == .data && (sh.secondHalf != c.changeOnLeave) then !c.sckIdle else c.sckIdle
  | none => c.sckIdle

/-- The level of SDO (R114): the bit of the byte in progress, and 0 outside data bit times. -/
def FrameChannel.sdo (c : FrameChannel) : Bool :=
  match c.shifter with
  | some sh =>
    if sh.phase == .data then
      (c.frames[sh.entry.frame].bytes.getD sh.bytesSent 0).getLsbD (if c.lsbFirst then sh.bit else 7 - sh.bit)
    else false
  | none => false

/-- SFS is asserted from the lead-in to the end of the lead-out (R115). -/
def FrameChannel.sfsAsserted (c : FrameChannel) : Bool :=
  match c.shifter with
  | some sh => sh.phase != .gap
  | none => false

/-- The level of SFS (R113). -/
def FrameChannel.sfs (c : FrameChannel) : Bool := c.sfsAsserted != c.sfsActiveLow

/-! ### LOAD_FRAME and the set-up registers -/

/-- The result of LOAD_FRAME with OK or LOCKED: the channel as the command found it (R110). -/
def State.frameBytes (f : FrameNo) (s : State) : List Byte :=
  [byteOf s.chan.frames[f].bytes.length, byteOf s.chan.frames[f].lock, byteOf s.chan.queue.length, byteOf (shifterCode s.chan.shifter)]

/-- The action step of LOAD_FRAME (R109, R110). -/
def loadFrameAction (s : State) : State :=
  let b := s.engine.snapshot
  if 7 < b[0].toNat then s.acted .badArg [0]
  else if Config.frameMax < b[1].toNat then s.acted .badArg [1]
  else
    let f : FrameNo := Fin.ofNat 8 b[0].toNat
    let found := s.frameBytes f
    if s.chan.frames[f].lock ≠ 0 then s.acted .locked found
    else
      { s with chan := s.chan.setFrame f { bytes := (b.toList.drop 2).take b[1].toNat, lock := s.chan.frames[f].lock } }.acted .ok found

/-- LOAD_FRAME, code 0x20 (R109). -/
def execLoadFrame (part : CommandStep) (s : State) : Host.Outcome State Fault Refusal :=
  match part with
  | .write => .next (s.cmdWrite 0x20)
  | .action => .next (if s.awaits 0x20 then loadFrameAction s else s)

/-- BDIV and SCFG can be written: the shifter is IDLE and the send queue is empty (R113); not while the part is held in reset (R139). -/
def State.serialWritable (s : State) : Bool := s.chan.shifter.isNone && s.chan.queue.isEmpty && s.sched.hold.isNone

/-- A write to BDIV (R113). -/
def State.writeBdiv (value : Byte) (s : State) : State :=
  if s.serialWritable then { s with chan := { s.chan with bdiv := value } } else s

/-- BDIV_WRITE (R113). -/
def execBdivWrite (value : Byte) (s : State) : Host.Outcome State Fault Refusal := .next (s.writeBdiv value)

/-- A write to SCFG (R113): the four defined bits (R181). SCK and SFS follow at once, as views of SCFG. -/
def State.writeScfg (value : Byte) (s : State) : State :=
  if s.serialWritable then { s with chan := { s.chan with scfg := value &&& 0x0F } } else s

/-- SCFG_WRITE (R113). -/
def execScfgWrite (value : Byte) (s : State) : Host.Outcome State Fault Refusal := .next (s.writeScfg value)

end Sys2Proof.Machine
end

