-- ==== Sys2Proof/Machine/Notices.lean ====
section
/-! DEFINITION. The commands of the notice logic and the interrupt logic (chapter 9): NOTICE_HANDOFF, FLAG_SET_REQUEST, WAKE_REQUEST, NPOP,
CPOP, NLOST_CLEAR, CLOST_CLEAR, IFLG_CLEAR, IEN_WRITE, NTHR_WRITE, CTHR_WRITE, WAKE_CLEAR. -/

namespace Sys2Proof.Machine

open Sys2Proof

/-- One notice stored at the tail, or lost when the queue holds 16 (R165, R166). -/
def NoticeLogic.store (l : NoticeLogic) (n : Notice) : NoticeLogic :=
  if l.queue.length < Config.noticeCapacity then
    { l with queue := l.queue ++ [{ notice := n, gap := l.gapPending }], gapPending := false }
  else { l with nlost := min (l.nlost + 1) Config.byteMax, sticky := setSticky .noticeLost l.sticky, gapPending := true }

/-- One hand-off stored whole, in its order (R165). -/
def NoticeLogic.storeAll (ns : List Notice) (l : NoticeLogic) : NoticeLogic := ns.foldl NoticeLogic.store l

/-- The notices of this block are raised by events of its own, not by the hand-offs of firings: SYNCED, HALT_ENTERED and their like, and
RESUME_GROUP's DONE (R68). -/
def hasOwnEvents : NoticeSource → Bool
  | .scheduler => true
  | .timeBase => true
  | .engine => true
  | .firing => false
  | .output => false
  | .frame => false

/-- The hand-off reports an entry of HALTED, with its halt request to the frame channel (R130); HALT_ENTERED with detail 2 reports none (R132). -/
def NoticeBatch.tellsEntry (b : NoticeBatch) : Bool := b.notices.any fun n => n.kind == .haltEntered && n.detail != 2

/-- The hand-off reports frames or requests that a halt ended (R118, R119). -/
def NoticeBatch.tellsAbort (b : NoticeBatch) : Bool := b.notices.any fun n => n.kind == .sendAborted

/-- The earlier hand-off must be stored first. Hand-offs of one block keep their order (R165); those of the firing unit and of the blocks with
events of their own keep the order of the steps (R68; log 5); the HALT_ENTERED of a release into HALTED is stored before every other (R140, R176).
Any other two reach the notice logic in either order (R165), but for `metBy`. -/
def NoticeBatch.goesBefore (earlier later : NoticeBatch) : Bool :=
  earlier.first
    || earlier.source == later.source
    || (earlier.source == .firing && hasOwnEvents later.source)
    || (hasOwnEvents earlier.source && later.source == .firing)

/-- A hand-off stands behind an entry of HALTED that raised one of the earlier hand-offs: it tells SEND_ABORTED, and the frame channel had taken the
halt request of such an entry when it raised it (R130; log 5). -/
def NoticeBatch.metBy (later : NoticeBatch) (earlier : List NoticeBatch) : Bool :=
  later.source == .frame && later.tellsAbort && decide (later.unmet < (earlier.filter NoticeBatch.tellsEntry).length)

/-- The oldest hand-off of a source, when no hand-off before it must be stored first, and the list without it. -/
def takeBatch (source : NoticeSource) (bs : List NoticeBatch) : Option (NoticeBatch × List NoticeBatch) :=
  let before := bs.takeWhile fun b => b.source != source
  match bs.dropWhile fun b => b.source != source with
  | [] => none
  | b :: rest => if (before.any fun e => e.goesBefore b) || b.metBy before then none else some (b, before ++ rest)

/-- NOTICE_HANDOFF (R165). -/
def execNoticeHandoff (source : NoticeSource) (s : State) : Host.Outcome State Fault Refusal :=
  match takeBatch source s.flight.notices with
  | none => .next s
  | some (b, rest) =>
    .next { s with flight := { s.flight with notices := rest }, notes := s.notes.storeAll b.notices }

/-- FLAG_SET_REQUEST (R171): the interrupt logic takes a request for the flag; a flag already set stays set. DESIGN CHOICE (log 28): requests
for different flags are taken in any order, also when one block made them, since R171 orders none. -/
def execFlagSetRequest (flag : StickyFlag) (s : State) : Host.Outcome State Fault Refusal :=
  if flag ∈ s.flight.flags then
    .next { s with
      flight := { s.flight with flags := s.flight.flags.erase flag }
      notes := { s.notes with sticky := setSticky flag s.notes.sticky } }
  else .next s

/-- WAKE_REQUEST (R175). -/
def execWakeRequest (s : State) : Host.Outcome State Fault Refusal :=
  match s.flight.wakes with
  | 0 => .next s
  | k + 1 => .next { s with flight := { s.flight with wakes := k }, notes := { s.notes with wake := true } }

/-- A write to NPOP (R168): the head notice removed; ignored on an empty queue. -/
def State.popNotice (s : State) : State :=
  if s.sched.hold.isSome then s else { s with notes := { s.notes with queue := s.notes.queue.tail } }

/-- NPOP (R168). -/
def execNpop (s : State) : Host.Outcome State Fault Refusal := .next s.popNotice

/-- A write to CPOP (R170): the head entry of the capture log removed; ignored on an empty log. -/
def State.popLog (s : State) : State :=
  if s.sched.hold.isSome then s else { s with cap := { s.cap with log := s.cap.log.tail } }

/-- CPOP (R170). -/
def execCpop (s : State) : Host.Outcome State Fault Refusal := .next s.popLog

/-- A write to NLOST (R169): 0 clears the count, any other value is ignored. -/
def State.writeNlost (value : Byte) (s : State) : State :=
  if s.sched.hold.isSome then s else if value = 0 then { s with notes := { s.notes with nlost := 0 } } else s

/-- NLOST_CLEAR (R169). -/
def execNlostClear (value : Byte) (s : State) : Host.Outcome State Fault Refusal := .next (s.writeNlost value)

/-- A write to CLOST (R170): 0 clears the count, any other value is ignored. -/
def State.writeClost (value : Byte) (s : State) : State :=
  if s.sched.hold.isSome then s else if value = 0 then { s with cap := { s.cap with clost := 0 } } else s

/-- CLOST_CLEAR (R170). -/
def execClostClear (value : Byte) (s : State) : Host.Outcome State Fault Refusal := .next (s.writeClost value)

/-- A write to IFLG (R171): each sticky flag written with 1 is cleared; the level flags follow their counts. -/
def State.writeIflg (value : Byte) (s : State) : State :=
  if s.sched.hold.isSome then s else { s with notes := { s.notes with sticky := clearSticky value s.notes.sticky } }

/-- IFLG_CLEAR (R171). -/
def execIflgClear (value : Byte) (s : State) : Host.Outcome State Fault Refusal := .next (s.writeIflg value)

/-- A write to IEN (R174): all eight enables. -/
def State.writeIen (value : Byte) (s : State) : State :=
  if s.sched.hold.isSome then s else { s with notes := { s.notes with ien := value } }

/-- IEN_WRITE (R174). -/
def execIenWrite (value : Byte) (s : State) : Host.Outcome State Fault Refusal := .next (s.writeIen value)

/-- A write to NTHR (R172): 1 to 16 is loaded, any other value is ignored. -/
def State.writeNthr (value : Byte) (s : State) : State :=
  if s.sched.hold.isSome then s
  else if 1 ≤ value.toNat ∧ value.toNat ≤ Config.noticeCapacity then { s with notes := { s.notes with nthr := value.toNat } }
  else s

/-- NTHR_WRITE (R172). -/
def execNthrWrite (value : Byte) (s : State) : Host.Outcome State Fault Refusal := .next (s.writeNthr value)

/-- A write to CTHR (R172): 1 to 32 is loaded, any other value is ignored. -/
def State.writeCthr (value : Byte) (s : State) : State :=
  if s.sched.hold.isSome then s
  else if 1 ≤ value.toNat ∧ value.toNat ≤ Config.captureCapacity then { s with notes := { s.notes with cthr := value.toNat } }
  else s

/-- CTHR_WRITE (R172). -/
def execCthrWrite (value : Byte) (s : State) : Host.Outcome State Fault Refusal := .next (s.writeCthr value)

/-- A write to WAKE (R175): bit 0 at 1 clears WAKE. -/
def State.writeWake (value : Byte) (s : State) : State :=
  if s.sched.hold.isSome then s
  else if value.getLsbD 0 then { s with notes := { s.notes with wake := false } }
  else s

/-- WAKE_CLEAR (R175). -/
def execWakeClear (value : Byte) (s : State) : Host.Outcome State Fault Refusal := .next (s.writeWake value)

end Sys2Proof.Machine
end

