-- ==== Sys2Proof/Machine/Output.lean ====
section
/-! DEFINITION. The commands of the output block (chapter 4): EDGE_REQUEST, RESTORE_REQUEST, EDGE_MARK_CLEAR, LMOD_WRITE, DLVL_WRITE,
SAFE_WRITE, LVLREF_CLEAR. -/

namespace Sys2Proof.Machine

open Sys2Proof

/-- The bit of a line in the line registers (R69). -/
def lineBit (l : LineNo) : Lines := (1 : Lines) <<< l.val

/-- The bits of the eight lines of a byte (R69). -/
def halfMask : LineHalf → Lines
  | .low => 0x00FF
  | .high => 0xFF00

/-- The register with one byte written (R69, R178). -/
def writeHalf (half : LineHalf) (value : Byte) (v : Lines) : Lines :=
  match half with
  | .low => v.extractLsb' 8 8 ++ value
  | .high => value ++ v.extractLsb' 0 8

/-- A line driven to a level. -/
def driveLine (l : LineNo) (level : Bool) (v : Lines) : Lines := if level then v ||| lineBit l else v &&& ~~~lineBit l

/-- The level a request drives its line to; TOGGLE reads the line in the same step (R72). -/
def OutputBlock.target (r : EdgeRequest) (o : OutputBlock) : Bool :=
  match r.drive with
  | .level v => v
  | .inverse => !o.level.getLsbD r.line.val

/-- The request is applied: the line is SCHEDULED and the safe hold is not in force (R72, R73, R78). -/
def OutputBlock.applies (r : EdgeRequest) (o : OutputBlock) : Bool := o.mode.getLsbD r.line.val && !o.safeHold

/-- A notice of the output block about a request (R73, R74). -/
def requestNotice (kind : NoticeKind) (r : EdgeRequest) : Notice :=
  { kind := kind, handle := some r.handle, time := r.tick, detail := byteOf r.line.val }

/-- An edge or restore request judged (R72 to R75, R78): applied, with CONFLICT when its tick equals the line's edge mark, or BLOCKED. -/
def State.judgeRequest (r : EdgeRequest) (s : State) : State :=
  if s.out.applies r then
    let s1 := { s with out := { s.out with
      level := driveLine r.line (s.out.target r) s.out.level
      marks := s.out.marks.set r.line.val (some r.tick) r.line.isLt } }
    if s.out.marks[r.line] = some r.tick then s1.handNotices .output [requestNotice .conflict r] else s1
  else s.handNotices .output [requestNotice .blocked r]

/-- EDGE_REQUEST (R72): the output block takes the oldest edge request of the firings. -/
def execEdgeRequest (s : State) : Host.Outcome State Fault Refusal :=
  match s.flight.edges with
  | [] => .next s
  | r :: rest => .next ({ s with flight := { s.flight with edges := rest } }.judgeRequest r)

/-- RESTORE_REQUEST (R75): the output block takes the oldest restore request of the cancellations, exactly as an edge request. -/
def execRestoreRequest (s : State) : Host.Outcome State Fault Refusal :=
  match s.flight.restores with
  | [] => .next s
  | r :: rest => .next ({ s with flight := { s.flight with restores := rest } }.judgeRequest r)

/-- EDGE_MARK_CLEAR (R74): an accepted time jump clears every line's edge mark. -/
def execEdgeMarkClear (s : State) : Host.Outcome State Fault Refusal :=
  match s.flight.markClears with
  | 0 => .next s
  | k + 1 =>
    .next { s with flight := { s.flight with markClears := k }, out := { s.out with marks := Vector.replicate 16 none } }

/-- A write to an LMOD byte (R70): the modes, and outside the safe hold the lines turned from SCHEDULED to DIRECT driven to their latch. -/
def State.writeLmod (half : LineHalf) (value : Byte) (s : State) : State :=
  if s.sched.hold.isSome then s
  else
    let mode := writeHalf half value s.out.mode
    let turned := s.out.mode &&& ~~~mode
    { s with out := { s.out with
        mode := mode
        level := if s.out.safeHold then s.out.level else mix turned s.out.latch s.out.level } }

/-- LMOD_WRITE (R70). -/
def execLmodWrite (half : LineHalf) (value : Byte) (s : State) : Host.Outcome State Fault Refusal := .next (s.writeLmod half value)

/-- A write to a DLVL byte: the latch bits; outside the safe hold the byte's DIRECT lines are driven (R71), under it LVLREF is set (R79). -/
def State.writeDlvl (half : LineHalf) (value : Byte) (s : State) : State :=
  if s.sched.hold.isSome then s
  else
    let latch := writeHalf half value s.out.latch
    if s.out.safeHold then { s with out := { s.out with latch := latch, lvlref := true } }
    else { s with out := { s.out with latch := latch, level := mix (halfMask half &&& ~~~s.out.mode) latch s.out.level } }

/-- DLVL_WRITE (R71, R79). -/
def execDlvlWrite (half : LineHalf) (value : Byte) (s : State) : Host.Outcome State Fault Refusal := .next (s.writeDlvl half value)

/-- A write to a SAFE byte (R80): the safe levels, and under the safe hold the changed lines driven at once. -/
def State.writeSafe (half : LineHalf) (value : Byte) (s : State) : State :=
  if s.sched.hold.isSome then s
  else
    let safe := writeHalf half value s.out.safe
    { s with out := { s.out with
        safe := safe
        level := if s.out.safeHold then mix (s.out.safe ^^^ safe) safe s.out.level else s.out.level } }

/-- SAFE_WRITE (R80). -/
def execSafeWrite (half : LineHalf) (value : Byte) (s : State) : Host.Outcome State Fault Refusal := .next (s.writeSafe half value)

/-- A write to STAT (R79, R180): bit 5 at 1 clears LVLREF. -/
def State.writeStat (value : Byte) (s : State) : State :=
  if s.sched.hold.isSome then s
  else if value.getLsbD 5 then { s with out := { s.out with lvlref := false } }
  else s

/-- LVLREF_CLEAR (R79). -/
def execLvlrefClear (value : Byte) (s : State) : Host.Outcome State Fault Refusal := .next (s.writeStat value)

end Sys2Proof.Machine
end

