-- ==== Sys2Proof/Machine/TimeBase.lean ====
section
/-! DEFINITION. The commands of the time base (chapter 1): TICK_EVENT, SYNC_EDGE, SET_TIME, ARM_SYNC, TCK0_READ, TCFG_WRITE. -/

namespace Sys2Proof.Machine

open Sys2Proof

/-- An OVERDUE slot's due moved forward when TICK has left it more than 2^30 ticks behind (R133): one period for a periodic slot, to TICK
less 2^30 for a one-shot. -/
def Slot.keptInHorizon (tick : Tick) (sl : Slot) : Slot :=
  match sl.place with
  | .overdue due =>
    if distance due tick < -(Config.horizon : Int) then
      match sl.record.period with
      | some period => { sl with place := .overdue (due + BitVec.ofNat 32 period) }
      | none => { sl with place := .overdue (tick - BitVec.ofNat 32 Config.horizon) }
    else sl
  | _ => sl

/-- A tick event at the time base (R1, R4): the divider returns to zero, TICK advances by one, overdue dues are kept within the horizon
(R133), the samples are delivered to the capture block (R83), and the firing unit looks at the head (R47). -/
def State.tickAdvance (samples : Byte) (s : State) : State :=
  if s.counting then
    let tick := s.time.tick + 1
    { s with
      time := { s.time with tick := tick, divider := 0 }
      slots := Vector.ofFn fun n : SlotNo => s.slots[n].keptInHorizon tick
      pins := { s.pins with cap := samples }
      flight := { s.flight with ticks := s.flight.ticks ++ [(⟨tick, samples⟩ : TickSample)] } }.atMoment
  else s

/-- TICK_EVENT (R1, R84): the advance of TICK, or the capture block's step on the oldest tick event delivered to it (R87, R89). -/
def execTickEvent (part : TickStep) (s : State) : Host.Outcome State Fault Refusal :=
  match part with
  | .advance samples => .next (s.tickAdvance samples)
  | .sample => .next s.takeTick

/-- A SYNC edge event (R14): an armed part that is RUNNING judges the jump to SYNCVAL, disarms, and raises SYNCED or SYNC_REJECTED; any other
part ignores it. -/
def State.takeSyncEdge (s : State) : State :=
  if s.time.armed && s.sched.state == .running then
    let s1 := { s with time := { s.time with armed := false } }
    if s.jumpAllowed s.time.syncVal then
      let s2 := s1.jump s.time.syncVal
      s2.handNotices .timeBase [s2.plainNotice .synced 0]
    else s1.handNotices .timeBase [s1.plainNotice .syncRejected 0]
  else s

/-- SYNC_EDGE (R12, R14): a sample of SYNC. The detector keeps the sampled level; a sample at 1 that follows one at 0 is a rising edge, and a
falling edge has no effect. While the part is held in reset the pin alone moves (R139). -/
def execSyncEdge (s : State) (level : Bool := true) : Host.Outcome State Fault Refusal :=
  let s1 := { s with pins := { s.pins with sync := level } }
  if s.sched.hold.isSome then .next s1
  else
    let s2 := { s1 with time := { s1.time with syncSeen := level } }
    .next (if level && !s.time.syncSeen then s2.takeSyncEdge else s2)

/-- The action step of SET_TIME (R9, R10). -/
def setTimeAction (s : State) : State :=
  let b := s.engine.snapshot
  let new := le32 b[0] b[1] b[2] b[3]
  let found := bytes32 s.time.tick ++ [byteOf s.fire.dueQueue.length]
  if s.sched.state != .stopped then s.acted .state []
  else if s.jumpAllowed new then (s.jump new).acted .ok found
  else s.acted .range found

/-- SET_TIME, code 0x30 (R9). -/
def execSetTime (part : CommandStep) (s : State) : Host.Outcome State Fault Refusal :=
  match part with
  | .write => .next (s.cmdWrite 0x30)
  | .action => .next (if s.awaits 0x30 then setTimeAction s else s)

/-- The action step of ARM_SYNC (R13): the result shows the arm flag and SYNCVAL as they stood before. -/
def armSyncAction (s : State) : State :=
  let b := s.engine.snapshot
  let found := flagByte s.time.armed :: bytes32 s.time.syncVal
  if b[0] = 1 then
    { s with time := { s.time with armed := true, syncVal := le32 b[1] b[2] b[3] b[4] } }.acted .ok found
  else if b[0] = 0 then { s with time := { s.time with armed := false } }.acted .ok found
  else s.acted .badArg []

/-- ARM_SYNC, code 0x31 (R13). -/
def execArmSync (part : CommandStep) (s : State) : Host.Outcome State Fault Refusal :=
  match part with
  | .write => .next (s.cmdWrite 0x31)
  | .action => .next (if s.awaits 0x31 then armSyncAction s else s)

/-- A read of TCK0 (R16): the latch takes TICK and its low byte is returned. While the part is held in reset the read returns the reset value and
has no other effect (R139). -/
def State.readTck0 (s : State) : State :=
  if s.sched.hold.isSome then { s with lastRead := some 0 }
  else { s with time := { s.time with latch := s.time.tick }, lastRead := some (s.time.tick.extractLsb' 0 8) }

/-- TCK0_READ (R16). -/
def execTck0Read (s : State) : Host.Outcome State Fault Refusal := .next s.readTck0

/-- A write to TCFG (R2): 4 to 12 in STOPPED loads PSEL and clears the divider. -/
def State.writeTcfg (value : Byte) (s : State) : State :=
  if s.sched.hold.isSome then s
  else if s.sched.state == .stopped && decide (Config.pselMin ≤ value.toNat) && decide (value.toNat ≤ Config.pselMax) then
    { s with time := { s.time with psel := value.toNat, divider := 0 } }
  else s

/-- TCFG_WRITE (R2). -/
def execTcfgWrite (value : Byte) (s : State) : Host.Outcome State Fault Refusal := .next (s.writeTcfg value)

end Sys2Proof.Machine
end

