-- ==== Sys2Proof/Machine/Window.lean ====
section
/-! DEFINITION. The register window (chapter 10): what a read of each location presents, what a write to each location does, and REGISTER_WRITE. -/

namespace Sys2Proof.Machine

open Sys2Proof

/-- The eight bytes of NHD (R167, R184). -/
def State.noticeHead (s : State) : List Byte :=
  match s.notes.queue with
  | [] => [0, 255, 0, 0, 0, 0, 0, 0]
  | e :: _ =>
    let n := e.notice
    let handle : List Byte :=
      match n.handle with
      | some h => [byteOf h.slot.val, h.tag]
      | none => [255, 0]
    byteOf (n.kind.code + (if e.gap then 128 else 0)) :: (handle ++ bytes32 n.time ++ [n.detail])

/-- The eight bytes of CHD (R170, R184). -/
def State.logHead (s : State) : List Byte :=
  match s.cap.log with
  | [] => [0, 0, 0, 0, 0, 0, 0, 0]
  | e :: _ =>
    [byteOf e.line.val, byteOf ((if e.rise then 1 else 2) + (if e.gap then 128 else 0))] ++ bytes32 e.timestamp ++ [0, 0]

/-- One byte of a two-byte line register (R69, R179). -/
def lineByte (half : LineHalf) (v : Lines) : Byte :=
  match half with
  | .low => v.extractLsb' 0 8
  | .high => v.extractLsb' 8 8

/-- The byte that a bus read of the location presents (R177 to R181). The one read with an effect is TCK0's, which loads the latch and presents
TICK's low byte (R16). -/
def State.busRead (s : State) (address : BitVec 7) : Byte :=
  let a := address.toNat
  if a = 0x00 then Config.partId
  else if a = 0x01 then Config.revision
  else if a = 0x02 then s.stat
  else if a = 0x03 then s.engine.current
  else if a = 0x04 then byteOf s.engine.result.code
  else if a = 0x05 then s.iflg
  else if a = 0x06 then s.notes.ien
  else if a = 0x07 then flagByte s.notes.wake
  else if a = 0x08 then s.time.tick.extractLsb' 0 8
  else if a = 0x09 then s.time.latch.extractLsb' 8 8
  else if a = 0x0A then s.time.latch.extractLsb' 16 8
  else if a = 0x0B then s.time.latch.extractLsb' 24 8
  else if a = 0x0C then byteOf s.time.psel
  else if a = 0x0D then s.chan.bdiv
  else if a = 0x0E then s.chan.scfg
  else if a = 0x0F then byteOf s.notes.nthr
  else if a = 0x10 then byteOf s.notes.cthr
  else if a = 0x11 then byteOf s.notes.nlost
  else if a = 0x12 then byteOf s.cap.clost
  else if a = 0x13 then byteOf s.notes.queue.length
  else if a = 0x14 then byteOf s.cap.log.length
  else if a = 0x18 then lineByte .low s.out.mode
  else if a = 0x19 then lineByte .high s.out.mode
  else if a = 0x1A then lineByte .low s.out.safe
  else if a = 0x1B then lineByte .high s.out.safe
  else if a = 0x1C then lineByte .low s.out.latch
  else if a = 0x1D then lineByte .high s.out.latch
  else if a = 0x1E then lineByte .low s.out.level
  else if a = 0x1F then lineByte .high s.out.level
  else if 0x20 ≤ a ∧ a ≤ 0x2F then s.engine.staging.toList.getD (a - 0x20) 0
  else if 0x30 ≤ a ∧ a ≤ 0x3F then s.engine.window.toList.getD (a - 0x30) 0
  else if 0x40 ≤ a ∧ a ≤ 0x47 then s.noticeHead.getD (a - 0x40) 0
  else if 0x48 ≤ a ∧ a ≤ 0x4F then s.logHead.getD (a - 0x48) 0
  else 0

/-- A write to a staging byte (R145). -/
def State.writeStaging (i : Fin 16) (value : Byte) (s : State) : State :=
  if s.sched.hold.isSome then s
  else { s with engine := { s.engine with staging := s.engine.staging.set i.val value i.isLt } }

/-- A bus write of a byte to a location, taken under the rule that owns it (R177 to R179); read-only and empty locations ignore it. -/
def State.busWrite (address : BitVec 7) (value : Byte) (s : State) : State :=
  let a := address.toNat
  if a = 0x02 then s.writeStat value
  else if a = 0x03 then s.cmdWrite value
  else if a = 0x05 then s.writeIflg value
  else if a = 0x06 then s.writeIen value
  else if a = 0x07 then s.writeWake value
  else if a = 0x0C then s.writeTcfg value
  else if a = 0x0D then s.writeBdiv value
  else if a = 0x0E then s.writeScfg value
  else if a = 0x0F then s.writeNthr value
  else if a = 0x10 then s.writeCthr value
  else if a = 0x11 then s.writeNlost value
  else if a = 0x12 then s.writeClost value
  else if a = 0x15 then s.popNotice
  else if a = 0x16 then s.popLog
  else if a = 0x18 then s.writeLmod .low value
  else if a = 0x19 then s.writeLmod .high value
  else if a = 0x1A then s.writeSafe .low value
  else if a = 0x1B then s.writeSafe .high value
  else if a = 0x1C then s.writeDlvl .low value
  else if a = 0x1D then s.writeDlvl .high value
  else if 0x20 ≤ a ∧ a ≤ 0x2F then s.writeStaging (Fin.ofNat 16 (a - 0x20)) value
  else s

/-- The strobes make a read: CS# and RD# are asserted and WR# is not (R177). -/
def takesRead (p : Strobes) : Bool := p.cs && p.rd && !p.wr

/-- The strobes make a write: CS# and WR# are asserted and RD# is not (R177). -/
def takesWrite (p : Strobes) : Bool := p.cs && p.wr && !p.rd

/-- What the part puts on D0 to D7 while the strobes and A0 to A6 stand so (R177, R186): the byte read during a read, and otherwise nothing
(high impedance). While the part is held in reset it drives nothing but, where the part takes reads then, the byte read (log 27). -/
def State.dataPins (strobes : Strobes) (address : BitVec 7) (s : State) : Option Byte :=
  if takesRead strobes && (s.sched.hold.isNone || Config.readsInReset) then some (s.busRead address) else none

/-- A read access taken (R177): the byte is returned; TCK0 alone has an effect (R16). -/
def State.readAccess (address : BitVec 7) (s : State) : State :=
  if address = 0x08 then s.readTck0 else { s with lastRead := some (s.busRead address) }

/-- A bus access by its strobes (R177): a write, a read, or with CS# released, with no strobe or with all three asserted neither. -/
def State.busAccess (strobes : Strobes) (address : BitVec 7) (value : Byte) (s : State) : State :=
  if takesWrite strobes then s.busWrite address value
  else if takesRead strobes then s.readAccess address
  else s

/-- REGISTER_WRITE (R177, R178, log 27). A location with a row of its own is taken under that row's rule (log 16). -/
def execRegisterWrite (address : BitVec 7) (value : Byte) (s : State) (strobes : Strobes := .write) : Host.Outcome State Fault Refusal :=
  .next (s.busAccess strobes address value)

end Sys2Proof.Machine
end

