-- ==== Sys2Proof/Machine/Idle.lean ====
section
/-! DEFINITION. What the part does while no command waits: its own next step, and the CLKIN period when there is none. DESIGN CHOICE (log 2). -/

namespace Sys2Proof.Machine

open Sys2Proof

/-- The action step of the command with this code (R143). -/
def actionOf (pins : PinLevels) (code : Byte) : Option Instr :=
  if code = 0x10 then some (.post .action)
  else if code = 0x11 then some (.cancel .action)
  else if code = 0x12 then some (.amend .action)
  else if code = 0x13 then some (.readSlot .action)
  else if code = 0x18 then some (.cancelGroup .action)
  else if code = 0x19 then some (.suspendGroup .action)
  else if code = 0x1A then some (.resumeGroup .action)
  else if code = 0x1F then some (.query .action)
  else if code = 0x20 then some (.loadFrame .action)
  else if code = 0x28 then some (.capSetup .action)
  else if code = 0x30 then some (.setTime .action)
  else if code = 0x31 then some (.armSync .action)
  else if code = 0x38 then some (.start .action)
  else if code = 0x39 then some (.stop .action)
  else if code = 0x3A then some (.clear .action)
  else if code = 0x3F then some (.reset (.action pins))
  else none

/-- The engine's own next step: the action step of the accepted command, or the completion of the one that has acted. -/
def State.engineStep (s : State) : Option Instr :=
  match s.engine.state with
  | .ready => none
  | .accepted => actionOf s.pins s.engine.current
  | .draining => none
  | .acted _ _ => some .commandCompletion

/-- The halt or end request that the frame channel takes next (R118, R120). -/
def State.frameCtlStep (s : State) : Option Instr :=
  match s.flight.frameCtl with
  | .halt :: _ => some .haltRequest
  | .finish :: _ => some .endRequest
  | [] => none

/-- The hand-off taken next, when one waits, receiver by receiver. -/
def State.handoffStep (s : State) : Option Instr :=
  if !s.flight.jumps.isEmpty then some .captureTimeJump
  else if s.flight.markClears ≠ 0 then some .edgeMarkClear
  else if !s.flight.gates.isEmpty then some .gateRequest
  else if !s.flight.edges.isEmpty then some .edgeRequest
  else if !s.flight.restores.isEmpty then some .restoreRequest
  else if !s.flight.sends.isEmpty then some .sendRequest
  else if s.flight.wakes ≠ 0 then some .wakeRequest
  else if !s.flight.ticks.isEmpty then some (.tickEvent .sample)
  else
    match s.flight.notices, s.flight.flags with
    | b :: _, _ => some (.noticeHandoff b.source)
    | [], f :: _ => some (.flagSetRequest f)
    | [], [] => none

/-- The firing unit's own next step (R47, R50). -/
def State.unitStep (s : State) : Option Instr :=
  if s.firingHead.isSome then some .firing
  else if s.diversionHead.isSome then some .diversion
  else if s.drainHead.isSome then some .drainStep
  else if s.drainOver then some .drainEnd
  else none

/-- The shifter's start, the step that follows the append (R115). -/
def State.shifterStep (s : State) : Option Instr :=
  if s.chan.shifter.isNone && !s.chan.queue.isEmpty then some .shifterStart else none

/-- The part's own next step: a halt or end request that waits, the shifter's start, which follows the append (R115), and then in a fixed order
the other hand-offs, the engine, the firing unit. DESIGN CHOICE (log 2): of an entry appended and a halt request waiting together, with the shifter
IDLE, R120 says that the entry is flushed and R115 that it is taken; the halt request goes first, so that it is flushed. -/
def State.ownStep (s : State) : Option Instr :=
  s.frameCtlStep <|> s.shifterStep <|> s.handoffStep <|> s.engineStep <|> s.unitStep

/-- The tick divider's share of a CLKIN period (R1). -/
def State.clockTick (s : State) : State :=
  if s.counting then
    if 2 ^ s.time.psel ≤ s.time.divider + 1 then s.tickAdvance s.pins.cap
    else { s with time := { s.time with divider := s.time.divider + 1 } }
  else s

/-- The firing unit's share (R49). -/
def State.clockUnit (s : State) : State :=
  match s.fire.unit with
  | .idle => s
  | .firing periods =>
    if Config.firingPeriods ≤ periods + 1 then s.unitIdle
    else { s with fire := { s.fire with unit := .firing (periods + 1) } }

/-- The bit divider's share (R113, R115, R116): at the end of a half bit, the step that ends it. -/
def State.clockShifter (s : State) : State :=
  match s.chan.shifter with
  | none => s
  | some sh =>
    if s.chan.bdiv.toNat + 1 ≤ s.chan.bitDivider + 1 then
      if sh.endsLeadOut then (if sh.aborting then s.endAborted sh else s.endFrame sh)
      else if sh.endsGap then s.endGap
      else s.endHalfBit
    else { s with chan := { s.chan with bitDivider := s.chan.bitDivider + 1 } }

/-- One CLKIN period (R1, R49, R113); nothing happens while the part is held in reset (R139). -/
def State.clkinPeriod (s : State) : State :=
  if s.sched.hold.isSome then s else s.clockTick.clockUnit.clockShifter

end Sys2Proof.Machine
end

