-- ==== Sys2Proof/Machine/Dispatch.lean ====
section
/-! DEFINITION. One arm per command: the direct call of its meaning. -/

namespace Sys2Proof.Machine

open Sys2Proof

def exec (i : Instr) (s : State) : Host.Outcome State Fault Refusal :=
  match i with
  | .tickEvent part => Sys2Proof.Machine.execTickEvent part s
  | .edgeAccepted => Sys2Proof.Machine.execEdgeAccepted s
  | .firing => Sys2Proof.Machine.execFiring s
  | .diversion => Sys2Proof.Machine.execDiversion s
  | .drainStep => Sys2Proof.Machine.execDrainStep s
  | .drainEnd => Sys2Proof.Machine.execDrainEnd s
  | .returnToIdle => Sys2Proof.Machine.execReturnToIdle s
  | .edgeRequest => Sys2Proof.Machine.execEdgeRequest s
  | .restoreRequest => Sys2Proof.Machine.execRestoreRequest s
  | .sendRequest => Sys2Proof.Machine.execSendRequest s
  | .gateRequest => Sys2Proof.Machine.execGateRequest s
  | .wakeRequest => Sys2Proof.Machine.execWakeRequest s
  | .parkListAppend slot => Sys2Proof.Machine.execParkListAppend slot s
  | .noticeHandoff source => Sys2Proof.Machine.execNoticeHandoff source s
  | .flagSetRequest flag => Sys2Proof.Machine.execFlagSetRequest flag s
  | .captureTimeJump => Sys2Proof.Machine.execCaptureTimeJump s
  | .edgeMarkClear => Sys2Proof.Machine.execEdgeMarkClear s
  | .haltRequest => Sys2Proof.Machine.execHaltRequest s
  | .endRequest => Sys2Proof.Machine.execEndRequest s
  | .shifterStart => Sys2Proof.Machine.execShifterStart s
  | .frameEnd => Sys2Proof.Machine.execFrameEnd s
  | .abortedFrameEnd => Sys2Proof.Machine.execAbortedFrameEnd s
  | .gapEnd => Sys2Proof.Machine.execGapEnd s
  | .syncEdge level => Sys2Proof.Machine.execSyncEdge s level
  | .haltAssertion => Sys2Proof.Machine.execHaltAssertion s
  | .haltRelease => Sys2Proof.Machine.execHaltRelease s
  | .powerOnReset => Sys2Proof.Machine.execPowerOnReset s
  | .rstPinReset => Sys2Proof.Machine.execRstPinReset s
  | .resetRelease pins => Sys2Proof.Machine.execResetRelease pins s
  | .post part => Sys2Proof.Machine.execPost part s
  | .cancel part => Sys2Proof.Machine.execCancel part s
  | .amend part => Sys2Proof.Machine.execAmend part s
  | .readSlot part => Sys2Proof.Machine.execReadSlot part s
  | .cancelGroup part => Sys2Proof.Machine.execCancelGroup part s
  | .suspendGroup part => Sys2Proof.Machine.execSuspendGroup part s
  | .resumeGroup part => Sys2Proof.Machine.execResumeGroup part s
  | .query part => Sys2Proof.Machine.execQuery part s
  | .loadFrame part => Sys2Proof.Machine.execLoadFrame part s
  | .capSetup part => Sys2Proof.Machine.execCapSetup part s
  | .setTime part => Sys2Proof.Machine.execSetTime part s
  | .armSync part => Sys2Proof.Machine.execArmSync part s
  | .start part => Sys2Proof.Machine.execStart part s
  | .stop part => Sys2Proof.Machine.execStop part s
  | .clear part => Sys2Proof.Machine.execClear part s
  | .reset part => Sys2Proof.Machine.execReset part s
  | .badCmd code => Sys2Proof.Machine.execBadCmd code s
  | .cmdWriteRefused code => Sys2Proof.Machine.execCmdWriteRefused code s
  | .commandCompletion => Sys2Proof.Machine.execCommandCompletion s
  | .tck0Read => Sys2Proof.Machine.execTck0Read s
  | .tcfgWrite value => Sys2Proof.Machine.execTcfgWrite value s
  | .bdivWrite value => Sys2Proof.Machine.execBdivWrite value s
  | .scfgWrite value => Sys2Proof.Machine.execScfgWrite value s
  | .nthrWrite value => Sys2Proof.Machine.execNthrWrite value s
  | .cthrWrite value => Sys2Proof.Machine.execCthrWrite value s
  | .npop => Sys2Proof.Machine.execNpop s
  | .cpop => Sys2Proof.Machine.execCpop s
  | .nlostClear value => Sys2Proof.Machine.execNlostClear value s
  | .clostClear value => Sys2Proof.Machine.execClostClear value s
  | .iflgClear value => Sys2Proof.Machine.execIflgClear value s
  | .ienWrite value => Sys2Proof.Machine.execIenWrite value s
  | .wakeClear value => Sys2Proof.Machine.execWakeClear value s
  | .lvlrefClear value => Sys2Proof.Machine.execLvlrefClear value s
  | .lmodWrite half value => Sys2Proof.Machine.execLmodWrite half value s
  | .dlvlWrite half value => Sys2Proof.Machine.execDlvlWrite half value s
  | .safeWrite half value => Sys2Proof.Machine.execSafeWrite half value s
  | .registerWrite address value strobes => Sys2Proof.Machine.execRegisterWrite address value s strobes
  | .halfBitEnd => Sys2Proof.Machine.execHalfBitEnd s

end Sys2Proof.Machine
end

