-- ==== Sys2Proof/Machine/Step.lean ====
section
/-! DEFINITION. One step of the part: the command at the front of the queue, or the part's own work when none waits. -/

namespace Sys2Proof.Machine

open Sys2Proof

/-- The state with the command that the word spells put at the front of its queue; unchanged where the word spells none. -/
def State.withFetchWord (s : State) (nbits w : Nat) : State :=
  match decodeTableWord nbits w with
  | some c => { s with pending := c :: s.pending }
  | none => s

/-- While no command waits, the part takes its own next step, or lets one CLKIN period pass. DESIGN CHOICE (log 2). -/
def idleStep (s : State) : Host.Outcome State Fault Refusal :=
  match s.ownStep with
  | some c => exec c s
  | none => .next s.clkinPeriod

/-- One step: the command at the front of the queue with the queue's rest, or `idleStep` on an empty queue. -/
def step (s : State) : Host.Outcome State Fault Refusal :=
  match s.pending with
  | c :: rest => exec c { s with pending := rest }
  | [] => idleStep s

end Sys2Proof.Machine
end

