-- ==== Sys2Proof/Safety.lean ====
section
/-! DEFINITION. What the part keeps true of itself: the invariants that claims use, each from the rules it names. -/

namespace Sys2Proof.Machine

open Sys2Proof

/-- The slot is PARKED on this line: its state, and the line of its start field (R18). -/
def Slot.parkedOn (c : CapNo) (sl : Slot) : Bool := sl.isParked && sl.record.start.parkLine == some c

/-- The slot waits in a park list, or is to return to one, and its start field names a line (R38, R99). -/
def Slot.needsLine (sl : Slot) : Bool := sl.isParked || sl.heldWith 1

/-- Every slot is in exactly the place its state names, each once (R18, R41, R99, R133), and a slot that is parked, or held from a park list,
has a line to be parked on. -/
abbrev State.PlacesAgree (s : State) : Prop :=
  s.fire.dueQueue.Nodup ∧ s.fire.overdue.Nodup ∧ (∀ c : CapNo, s.cap.parks[c].Nodup) ∧
  (∀ n : SlotNo, n ∈ s.fire.dueQueue ↔ s.slots[n].isQueued = true) ∧
  (∀ n : SlotNo, n ∈ s.fire.overdue ↔ s.slots[n].isOverdue = true) ∧
  (∀ (c : CapNo) (n : SlotNo), n ∈ s.cap.parks[c] ↔ s.slots[n].parkedOn c = true) ∧
  (∀ n : SlotNo, s.slots[n].needsLine = true → s.slots[n].record.start.parkLine.isSome = true)

/-- The lines: the safe hold is in force exactly in HALTED, every line then stands at its safe level (R77), and outside it every DIRECT line
stands at its latch bit (R71). -/
abbrev State.LinesAgree (s : State) : Prop :=
  (s.out.safeHold = true ↔ s.sched.state = .halted) ∧
  (s.out.safeHold = true → s.out.level = s.out.safe) ∧
  (s.out.safeHold = false → s.out.level &&& ~~~s.out.mode = s.out.latch &&& ~~~s.out.mode)

/-- The capacities and ranges of the part's collections, counts and registers (R2, R37, R90, R94, R95, R108, R112, R136, R165, R166, R172, R181). -/
abbrev State.WithinBounds (s : State) : Prop :=
  s.notes.queue.length ≤ Config.noticeCapacity ∧ s.notes.nlost ≤ Config.byteMax ∧
  s.cap.log.length ≤ Config.captureCapacity ∧ s.cap.clost ≤ Config.byteMax ∧
  s.chan.queue.length ≤ Config.sendCapacity ∧ (∀ f : FrameNo, s.chan.frames[f].bytes.length ≤ Config.frameMax) ∧
  (∀ c : CapNo, s.cap.lines[c].filterLength ≤ 15) ∧
  Config.pselMin ≤ s.time.psel ∧ s.time.psel ≤ Config.pselMax ∧
  1 ≤ s.notes.nthr ∧ s.notes.nthr ≤ Config.noticeCapacity ∧ 1 ≤ s.notes.cthr ∧ s.notes.cthr ≤ Config.captureCapacity ∧
  s.sched.drainCount ≤ Config.countMax ∧ (∀ n : SlotNo, s.slots[n].occurrences ≤ Config.countMax) ∧
  s.notes.sticky &&& 0x0C = 0 ∧ s.chan.scfg &&& 0xF0 = 0

/-- The frame being shifted, from its lead-in to the end of its lead-out (R108). -/
def FrameChannel.shiftedFrame (c : FrameChannel) : Option FrameNo :=
  match c.shifter with
  | some sh => if sh.phase = .gap then none else some sh.entry.frame
  | none => none

/-- The uses of a frame: the send queue entries that name it, plus one if it is being shifted (R108). -/
def FrameChannel.uses (f : FrameNo) (c : FrameChannel) : Nat :=
  (c.queue.filter fun e => e.frame == f).length + (if c.shiftedFrame = some f then 1 else 0)

/-- Every lock count equals the uses of its frame, and a frame in use has a length of 1 or more (R108). -/
abbrev State.LocksAgree (s : State) : Prop :=
  ∀ f : FrameNo, s.chan.frames[f].lock = s.chan.uses f ∧ (s.chan.uses f ≠ 0 → s.chan.frames[f].bytes ≠ [])

/-- A PULSE record (R26). -/
def Action.isPulse : Action → Bool
  | .pulse _ _ _ _ => true
  | _ => false

/-- The halt: no slot is in phase TRAIL while HALTED (R47, R130), only PULSE slots are ever in it (R35), the overdue list is empty in STOPPED and
RUNNING (R133), and the engine drains exactly in RECOVERING (R124). -/
abbrev State.HaltAgrees (s : State) : Prop :=
  (s.sched.state = .halted → ∀ n : SlotNo, s.slots[n].isTrail = false) ∧
  (∀ n : SlotNo, s.slots[n].isTrail = true → s.slots[n].record.action.isPulse = true) ∧
  (s.sched.state = .stopped ∨ s.sched.state = .running → s.fire.overdue = []) ∧
  (s.engine.state = .draining ↔ s.sched.state = .recovering)

/-- While the part is held in reset it is STOPPED, READY and empty of hand-offs (R139). -/
abbrev State.HoldAgrees (s : State) : Prop :=
  s.sched.hold.isSome = true →
    s.sched.state = .stopped ∧ s.engine.state = .ready ∧ s.flight = .none ∧ s.fire.dueQueue = [] ∧ s.chan.shifter = none ∧ s.chan.queue = []

/-- Outside reset the edge detectors of SYNC and HALT# hold the levels of their pins: every sample of a pin reaches its detector (R12, R129),
and a release reads both (R140). -/
abbrev State.DetectorsAgree (s : State) : Prop :=
  s.sched.hold = none → s.time.syncSeen = s.pins.sync ∧ s.sched.haltSeen = s.pins.haltAsserted

/-- The command that a step takes: the front of the queue, or the part's own next step when none waits (log 2). -/
def State.takes (s : State) : Option Instr :=
  match s.pending with
  | c :: _ => some c
  | [] => s.ownStep

/-- The command is a RESET's action step, whatever the pins. -/
def isResetAction : Instr → Bool
  | .reset (.action _) => true
  | _ => false

/-- The command is a reset step: power-on, RST# or RESET (R139). -/
def resetsPart : Instr → Bool
  | .powerOnReset => true
  | .rstPinReset => true
  | c => isResetAction c

/-- The IDLE firing unit has a look outstanding (R47) and this slot heads the due queue. -/
abbrev State.looksAt (s : State) (n : SlotNo) (rest : List SlotNo) : Prop :=
  s.fire.unit = .idle ∧ s.fire.look = true ∧ s.fire.dueQueue = n :: rest

/-- A list of notices as at most one hand-off (R165), raised with so many halt requests untaken where it is the frame channel's (R130). -/
def batchOf (source : NoticeSource) (ns : List Notice) (unmet : Nat := 0) (first : Bool := false) : List NoticeBatch :=
  if ns = [] then [] else [{ source := source, notices := ns, unmet := unmet, first := first }]

/-- The LATE of an execution (R63, R67), the FIRED of one (R67), the DONE of a finish (R61, R67) and MISSED (R60, R67), of a slot at TICK. -/
def lateOf (n : SlotNo) (sl : Slot) (tick : Tick) (lateness : Nat) : List Notice :=
  if sl.record.notify = .never then []
  else [{ kind := .late, handle := some ⟨n, sl.tag⟩, time := tick, detail := byteOf (min lateness 255) }]

/-- See `lateOf`. -/
def firedOf (n : SlotNo) (sl : Slot) (tick : Tick) : List Notice :=
  if sl.record.action.isSignal = true ∨ sl.record.notify = .every then
    [{ kind := .fired, handle := some ⟨n, sl.tag⟩, time := tick, detail := byteOf sl.record.action.code }]
  else []

/-- See `lateOf`; the detail is the low byte of the occurrences. -/
def doneOf (n : SlotNo) (sl : Slot) (tick : Tick) (occurrences : Nat) : List Notice :=
  if sl.record.notify = .never then []
  else [{ kind := .done, handle := some ⟨n, sl.tag⟩, time := tick, detail := byteOf occurrences }]

/-- See `lateOf`. -/
def missedOf (n : SlotNo) (sl : Slot) (tick : Tick) (skipped : Nat) : List Notice :=
  if skipped = 0 then [] else [{ kind := .missed, handle := some ⟨n, sl.tag⟩, time := tick, detail := byteOf (min skipped 255) }]

/-- The hand-offs of an executed entry of a kind other than PULSE (R52, R55, R56, R57), with the notices of its firing (R68). -/
def Flight.afterLead (n : SlotNo) (sl : Slot) (tick : Tick) (ns : List Notice) (f : Flight) : Flight :=
  let h : Handle := ⟨n, sl.tag⟩
  { f with
    edges := f.edges ++ (match sl.record.action with
      | .set line level => [{ line := line, drive := .level level, handle := h, tick := tick }]
      | .toggle line => [{ line := line, drive := .inverse, handle := h, tick := tick }]
      | _ => [])
    sends := f.sends ++ (match sl.record.action with
      | .send frame => [{ frame := frame, handle := h, notify := sl.record.notify, tick := tick }]
      | _ => [])
    wakes := f.wakes + (match sl.record.action with
      | .signal true => 1
      | _ => 0)
    gates := f.gates ++ (match sl.record.action with
      | .gate line opens => [{ line := line, opens := opens }]
      | _ => [])
    notices := f.notices ++ batchOf .firing ns }

/-- The entry is executed when it is taken (R51): on time, or late under FIRE_ONCE. -/
abbrev Slot.executesAt (sl : Slot) (due tick : Tick) : Prop := distance due tick = 0 ∨ (distance due tick < 0 ∧ sl.record.late = .fireOnce)

/-- `k` is the least number of periods, 1 or more, that puts the base ahead of TICK (R60). -/
abbrev LeastAhead (base tick : Tick) (period k : Nat) : Prop :=
  1 ≤ k ∧ 0 < distance base tick + (k : Int) * (period : Int) ∧
    ∀ j : Nat, 1 ≤ j → j < k → distance base tick + (j : Int) * (period : Int) ≤ 0

/-- `k` is the least number of periods, 1 or more, that puts the base ahead of TICK, each distance read modulo 2^32 (section 0.4, R60): for a
base that may itself lie ahead of TICK, as a lead due can after time jumps (R45; log 20). -/
abbrev NextAhead (base tick : Tick) (period k : Nat) : Prop :=
  1 ≤ k ∧ 0 < distance (base + BitVec.ofNat 32 (k * period)) tick ∧
    ∀ j : Nat, 1 ≤ j → j < k → distance (base + BitVec.ofNat 32 (j * period)) tick ≤ 0

/-- The finish of a slot (R61, R62): held for END with suspend pending, back in its park list with its repeats reloaded under rearm, and else
freed with its tag. -/
def Slot.ended (pend : Bool) (sl : Slot) : Slot :=
  if pend then { sl with place := .held .atEnd }
  else if sl.record.start.rearm then { sl with repeats := sl.record.repeatsPosted, place := .parked }
  else Slot.freed sl.tag

/-- These slots inserted one after another, each behind every entry whose distance is not greater (R42), the distances as they are in this state. -/
def State.insertAll (s : State) (ns queue : List SlotNo) : List SlotNo :=
  ns.foldl (fun q n => insertBehind (fun m => decide (s.slotDistance m ≤ s.slotDistance n)) n q) queue

/-- The slot, until now in no queue or list, stands where its place says: in the due queue by R42, at the tail of its park list (R99), or in no
list. -/
def State.stand (n : SlotNo) (sl : Slot) (s : State) : State :=
  let s1 := s.setSlot n sl
  match sl.place, sl.record.start.parkLine with
  | .queued due _, _ =>
    { s1 with fire := { s1.fire with
        dueQueue := insertBehind (fun m => decide (s1.slotDistance m ≤ distance due s1.time.tick)) n s1.fire.dueQueue } }
  | .parked, some c => { s1 with cap := { s1.cap with parks := s1.cap.parks.set c.val (s1.cap.parks[c] ++ [n]) c.isLt } }
  | _, _ => s1

/-- A slot that is to return to a park list when it finishes is in none (R18). -/
abbrev State.inNoPark (s : State) (n : SlotNo) : Prop := s.slots[n].record.start.rearm = true → ∀ c : CapNo, n ∉ s.cap.parks[c]

/-- The due queue stands in non-decreasing distance (R41). -/
abbrev State.InOrder (s : State) : Prop := s.fire.dueQueue.Pairwise fun m n => s.slotDistance m ≤ s.slotDistance n

/-- No entry of the due queue lies 2^31 ticks behind TICK, where the next tick event would turn its distance round (R6). -/
abbrev State.ShortOfWrap (s : State) : Prop := ∀ n ∈ s.fire.dueQueue, -2 ^ 31 < s.slotDistance n

/-- The remaining of a slot HELD for the due queue (R39); 0 for any other slot. -/
def Slot.remaining (sl : Slot) : Int :=
  match sl.place with
  | .held (.queue remaining) => remaining.toInt
  | _ => 0

/-- The distance of a lead due (R45); 0 for a slot without one. -/
def Slot.leadDistance (tick : Tick) (sl : Slot) : Int :=
  match sl.place with
  | .queued _ (.trail leadDue _) => distance leadDue tick
  | _ => 0

/-- The distance of the transition that a filter in progress confirms (R84); 0 for an idle filter. -/
def CapLine.transitionDistance (tick : Tick) (l : CapLine) : Int :=
  match l.filter with
  | .running transition _ => distance transition tick
  | .idle => 0

/-- The forward limit (R6, R44): no due queue entry and no remaining lies more than 2^30 ticks ahead, and the numbers of every record that
insertions use lie in their ranges (R26, R28, R32 check 11). -/
abbrev State.WithinForwardLimit (s : State) : Prop :=
  (∀ n ∈ s.fire.dueQueue, s.slotDistance n ≤ 2 ^ 30) ∧
  (∀ n : SlotNo, s.slots[n].remaining ≤ 2 ^ 30) ∧
  (∀ n : SlotNo, s.slots[n].record.action.widthOf < 65536 ∧ (∀ p ∈ s.slots[n].record.period, 0 < p ∧ p < 16777216) ∧
    (s.slots[n].record.start.parkLine.isSome = true → s.slots[n].record.start.value.toNat < 16777216))

/-- What has happened does not lie ahead of TICK: lead dues (R45), overdue dues (R133), and the ticks that timestamps are taken from (R84, R85). -/
abbrev State.PastBehind (s : State) : Prop :=
  (∀ n : SlotNo, s.slots[n].leadDistance s.time.tick ≤ 0) ∧
  (∀ n ∈ s.fire.overdue, s.slotDistance n ≤ 0) ∧
  (∀ ts ∈ s.flight.ticks, -2 ^ 30 ≤ distance ts.tick s.time.tick ∧ distance ts.tick s.time.tick ≤ 0) ∧
  (∀ c : CapNo, -2 ^ 30 ≤ s.cap.lines[c].transitionDistance s.time.tick ∧ s.cap.lines[c].transitionDistance s.time.tick ≤ 0)

/-- The line lies in the byte (R69). -/
def halfHolds (half : LineHalf) (i : LineNo) : Bool :=
  match half with
  | .low => decide (i.val < 8)
  | .high => decide (8 ≤ i.val)

/-- Samples applied to a line's filter one after another, with the timestamps of the edges accepted (R84, R85). -/
def CapLine.feed : List (Tick × Bool) → CapLine → CapLine × List Tick
  | [], l => (l, [])
  | p :: rest, l =>
    let r := (l.sample p.1 p.2).1.feed rest
    (r.1, (l.sample p.1 p.2).2.toList ++ r.2)

/-- Half bits ended one after another (R113). -/
def halfBits : Nat → State → Host.Outcome State Fault Refusal
  | 0, s => .next s
  | k + 1, s =>
    match exec .halfBitEnd s with
    | .next t => halfBits k t
    | .fault r => .fault r
    | .refused r => .refused r

/-- The numbers of a record lie in their ranges (R26, R28): width 16 bits, period 1 to 2^24 - 1, repeats 1 to 255. -/
abbrev Record.Fits (r : Record) : Prop :=
  r.action.widthOf < 65536 ∧ (∀ p ∈ r.period, 0 < p ∧ p < 16777216) ∧ (∀ q ∈ r.repeatsPosted, 0 < q ∧ q < 256)

/-- The CMD writes of the sixteen commands, each with its code (R143). -/
def commandWrites : List (Byte × Instr) :=
  [(0x10, .post .write), (0x11, .cancel .write), (0x12, .amend .write), (0x13, .readSlot .write), (0x18, .cancelGroup .write),
   (0x19, .suspendGroup .write), (0x1A, .resumeGroup .write), (0x1F, .query .write), (0x20, .loadFrame .write), (0x28, .capSetup .write),
   (0x30, .setTime .write), (0x31, .armSync .write), (0x38, .start .write), (0x39, .stop .write), (0x3A, .clear .write),
   (0x3F, .reset .write)]

/-- The accepted command of this code waits for its action step (R141, R143). -/
abbrev State.accepted (code : Byte) (s : State) : Prop := s.engine.state = .accepted ∧ s.engine.current = code

/-- The engine with the result that an action step has fixed (R143). -/
def Engine.withResult (code : ResultCode) (bytes : List Byte) (e : Engine) : Engine := { e with state := .acted code (windowOf bytes) }

/-- A safe run answers a next state at every step: the part has no faults and refuses nothing. -/
def Answers (o : Host.Outcome State Fault Refusal) : Prop := ∃ t, o = .next t

end Sys2Proof.Machine
end

