-- ==== Sys2Proof/Certificates/Slice0/Obligations.lean ====
section
/-! DEFINITION. The statements for the provers: what the commands do, what every step keeps, and what the record layout says.

Some fields are the model's own way of holding what the rules say, and the statements that name them rest on that much of the model: `flight`
(hand-offs not yet taken, log 4), `unmet` and `first` of a notice hand-off (log 5), `fire.look` (a moment of R47 not yet used, log 9), `lastRead` (log 19),
`pending` (log 18), and the blank record that a freed slot shows (log 13). -/

open Sys2Proof Sys2Proof.Machine

/-! ### The machine -/

/-- A step takes the command at the front of the queue and runs it on the state with the queue's rest.
The queue of commands is the model's (log 18). -/
def Obligations.StepRunsTheFrontCommand : Prop :=
  ∀ (c : Instr) (rest : List Instr) (s : State), s.pending = c :: rest → step s = exec c { s with pending := rest }

/-- While nothing waits and nothing is to be done, the CLKIN periods of the idle step make one tick of 2^PSEL periods (R1), and in STOPPED the
divider holds; a firing takes two of them (R49), and a half bit BDIV + 1 (R113), at whose end the step of the half bit, the frame or the gap is
made. That idle steps are CLKIN periods is the model's choice (log 2). -/
def Obligations.QuietPeriodsMakeOneTick : Prop :=
  ∀ s : State, s.pending = [] → s.ownStep = none → s.sched.hold = none →
    (s.fire.unit = .idle → s.chan.shifter = none →
      (s.sched.state ≠ .stopped →
        (∀ k : Nat, s.time.divider + k < 2 ^ s.time.psel →
          Host.Core.run core k s = .next { s with time := { s.time with divider := s.time.divider + k } }) ∧
        (∀ k : Nat, s.time.divider + (k + 1) = 2 ^ s.time.psel →
          ∃ t : State, Host.Core.run core (k + 1) s = .next t ∧
            t.time = { s.time with tick := s.time.tick + 1, divider := 0 } ∧
            t.flight = { s.flight with ticks := s.flight.ticks ++ [⟨s.time.tick + 1, s.pins.cap⟩] })) ∧
      (s.sched.state = .stopped → ∀ k : Nat, Host.Core.run core k s = .next s)) ∧
    (∃ t : State, step s = .next t ∧
      (s.fire.unit = .firing 0 → t.fire = { s.fire with unit := .firing 1 }) ∧
      (s.fire.unit = .firing 1 → ∃ look : Bool, t.fire = { s.fire with unit := .idle, look := look } ∧
        (s.sched.state = .recovering → look = true) ∧
        (s.sched.state = .running ∨ s.sched.state = .halted →
          (look = true ↔ ∃ h : SlotNo, s.fire.dueQueue.head? = some h ∧ t.slotDistance h ≤ 0))) ∧
      (s.chan.shifter = none → t.chan = s.chan) ∧
      (∀ sh : Shift, s.chan.shifter = some sh →
        let finish : Instr :=
          if sh.phase = .leadOut ∧ sh.secondHalf = true then (if sh.aborting then .abortedFrameEnd else .frameEnd)
          else if sh.phase = .gap ∧ sh.secondHalf = true ∧ 1 ≤ sh.bit then .gapEnd
          else .halfBitEnd
        (s.chan.bitDivider < s.chan.bdiv.toNat → t.chan = { s.chan with bitDivider := s.chan.bitDivider + 1 }) ∧
        (s.chan.bdiv.toNat ≤ s.chan.bitDivider → ∃ u : State, exec finish s = .next u ∧ t.chan = u.chan ∧ u.chan.bitDivider = 0)))

/-- Every command answers a next state, in every state, and leaves the queue of commands alone. That a row which the part could not take where it stands
is a step too is the model's choice (log 1), and so is the queue of commands (log 18). -/
def Obligations.EveryCommandAnswers : Prop :=
  ∀ (c : Instr) (s : State), ∃ t : State, exec c s = .next t ∧ t.pending = s.pending

/-- The state after reset meets every invariant stated below.
State.reset is power-on reset released with quiet pins, the model's choice (log 7). -/
def Obligations.ResetMeetsTheInvariants : Prop :=
  State.reset.PlacesAgree ∧ State.reset.LinesAgree ∧ State.reset.WithinBounds ∧ State.reset.LocksAgree ∧ State.reset.HaltAgrees ∧
    State.reset.HoldAgrees ∧ State.reset.DetectorsAgree ∧ State.reset.InOrder ∧ State.reset.ShortOfWrap ∧
    State.reset.WithinForwardLimit ∧ State.reset.PastBehind ∧ (∀ n : SlotNo, State.reset.slots[n].inUse = false ∧ State.reset.slots[n].tag = 0)

/-! ### What every step keeps -/

/-- Every step keeps every slot in exactly the place its state names, each once (R18). -/
def Obligations.EveryStepKeepsSlotsInPlace : Prop :=
  ∀ s t : State, s.PlacesAgree → step s = .next t → t.PlacesAgree

/-- Every step keeps the lines: under the safe hold, which is in force exactly in HALTED, every line stands at its safe level (R77), and
outside it every DIRECT line at its latch bit (R71). -/
def Obligations.EveryStepKeepsTheLines : Prop :=
  ∀ s t : State, s.LinesAgree → step s = .next t → t.LinesAgree

/-- Every step keeps the capacities and ranges of queues, counts, thresholds and registers. -/
def Obligations.EveryStepKeepsTheCapacities : Prop :=
  ∀ s t : State, s.WithinBounds → step s = .next t → t.WithinBounds

/-- Every step keeps each lock count equal to the uses of its frame, and a frame's bytes change only while its lock count is zero or by
power-on reset (R108). -/
def Obligations.EveryStepKeepsTheLockCounts : Prop :=
  ∀ s t : State, s.LocksAgree → step s = .next t →
    t.LocksAgree ∧
    ∀ f : FrameNo, t.chan.frames[f].bytes ≠ s.chan.frames[f].bytes → s.chan.frames[f].lock = 0 ∨ s.takes = some .powerOnReset

/-- Every step keeps HALTED free of TRAIL slots, TRAIL to PULSE slots, the overdue list empty in STOPPED and RUNNING, and the engine draining
exactly in RECOVERING (R35, R130, R133, R124). The premise on the reset hold (R139) is kept by every step as well (log 22). -/
def Obligations.EveryStepKeepsTheHalt : Prop :=
  ∀ s t : State, s.PlacesAgree → s.HoldAgrees → s.HaltAgrees → step s = .next t → t.HaltAgrees

/-- Every step keeps a part that is held in reset STOPPED, READY and without work, and nothing but a release ends the hold (R139, R140).
What the part does while held is read from R139 (log 22). Every step keeps the edge detectors of SYNC and HALT# at the levels of their pins while
no hold is in force (R12, R129). -/
def Obligations.EveryStepKeepsTheResetHold : Prop :=
  ∀ s t : State, s.HoldAgrees → step s = .next t →
    t.HoldAgrees ∧ (s.sched.hold.isSome = true → t.sched.hold.isSome = true ∨ ∃ pins : PinLevels, s.takes = some (.resetRelease pins)) ∧
    (s.DetectorsAgree → t.DetectorsAgree)

/-- In STOPPED, TICK changes only by SET_TIME or a reset, and the tick divider only by these or by a write to TCFG (R3, R1). -/
def Obligations.TickHoldsInStopped : Prop :=
  ∀ s t : State, step s = .next t → s.sched.state = .stopped →
    (t.time.tick ≠ s.time.tick →
      ∃ c : Instr, s.takes = some c ∧ (c = .setTime .action ∨ resetsPart c = true)) ∧
    (t.time.divider ≠ s.time.divider →
      ∃ c : Instr, s.takes = some c ∧
        (c = .setTime .action ∨ resetsPart c = true ∨ ∃ v : Byte, c = .tcfgWrite v ∨ c = .registerWrite 0x0C v .write))

/-- A slot's tag moves only at its allocation by POST, which returns it, and at power-on reset; an allocated slot never carries tag 0 (R20). -/
def Obligations.TagsMoveOnlyAtAllocation : Prop :=
  ∀ s t : State, s.PlacesAgree → step s = .next t →
    (∀ n : SlotNo, t.slots[n].tag ≠ s.slots[n].tag →
      (s.takes = some .powerOnReset ∧ t.slots[n].tag = 0) ∨
      (s.takes = some (.post .action) ∧ s.slots[n].place = .free ∧ t.slots[n].inUse = true ∧
        t.slots[n].tag = (if s.slots[n].tag = 255 then 1 else s.slots[n].tag + 1) ∧
        ∃ w : Bytes16, t.engine.state = .acted .ok w ∧ w[0] = byteOf n.val ∧ w[1] = t.slots[n].tag)) ∧
    ((∀ n : SlotNo, s.slots[n].inUse = true → s.slots[n].tag ≠ 0) → ∀ n : SlotNo, t.slots[n].inUse = true → t.slots[n].tag ≠ 0)

/-- The scheduler state moves only as the table of R123 gives, each move by its cause. -/
def Obligations.SchedulerMovesFollowTheTable : Prop :=
  ∀ s t : State, step s = .next t → t.sched.state ≠ s.sched.state →
    (s.takes = some (.start .action) ∧
      ((s.sched.state = .stopped ∧ t.sched.state = .running) ∨
       (s.sched.state = .halted ∧ s.sched.haltSeen = false ∧ t.sched.state = .recovering))) ∨
    (s.takes = some (.stop .action) ∧ s.sched.state = .running ∧ t.sched.state = .stopped) ∨
    (s.takes = some .haltAssertion ∧ t.sched.state = .halted) ∨
    (s.takes = some .drainEnd ∧ s.sched.state = .recovering ∧ t.sched.state = .running) ∨
    (∃ c : Instr, s.takes = some c ∧ resetsPart c = true ∧ (t.sched.state = .stopped ∨ (isResetAction c = true ∧ t.sched.state = .halted))) ∨
    (∃ pins : PinLevels, s.takes = some (.resetRelease pins) ∧ pins.haltAsserted = true ∧ t.sched.state = .halted)

/-- A line's level changes only by a request of the firings or cancellations, a write to DLVL, LMOD or SAFE, the entry of HALTED, the end of a
halt, or a reset (R69). -/
def Obligations.LinesMoveOnlyByTheirEvents : Prop :=
  ∀ s t : State, step s = .next t → t.out.level ≠ s.out.level →
    ∃ c : Instr, s.takes = some c ∧
      (c = .edgeRequest ∨ c = .restoreRequest ∨ c = .haltAssertion ∨ c = .start .action ∨ resetsPart c = true ∨
       (∃ pins : PinLevels, c = .resetRelease pins ∧ pins.haltAsserted = true) ∨
       ∃ (half : LineHalf) (v : Byte), c = .dlvlWrite half v ∨ c = .lmodWrite half v ∨ c = .safeWrite half v ∨
         ∃ a : BitVec 7, c = .registerWrite a v .write ∧ a ∈ ([0x18, 0x19, 0x1A, 0x1B, 0x1C, 0x1D] : List (BitVec 7)))

/-! ### The record layout -/

/-- A record read back through READ_SLOT part 0 is, in the POST staging layout, the same record, and every legal POST gives a record whose numbers
fit that layout (R182, R183). -/
def Obligations.RecordReadBackIsTheRecord : Prop :=
  (∀ sl : Slot, sl.record.Fits → Layout.record (windowOf sl.recordBytes) = sl.record) ∧
  (∀ (b : Bytes16) (tick : Tick), recordFault b tick = none → (Layout.record b).Fits)

/-- The checks of a POST's record, in their order: the number reported is the first check that the staging bytes fail (R32); and the record that a
legal POST offers, field by field from the staging bytes (R22, R182). -/
def Obligations.FirstFailedCheckIsReported : Prop :=
  ∀ (b : Bytes16) (tick : Tick),
    let kind := b[0].toNat % 8
    let start := b[0].toNat / 8 % 4
    let notify := b[0].toNat / 64
    let target := b[1].toNat % 16
    let option := b[1].getLsbD 4
    let restore := b[1].getLsbD 5
    let rearm := b[1].getLsbD 6
    let group := b[2].toNat
    let value : Tick := b[6] ++ b[5] ++ b[4] ++ b[3]
    let period := (b[9] ++ b[8] ++ b[7]).toNat
    let repeats := b[10].toNat
    let width := (b[12] ++ b[11]).toNat
    let parkLine := b[13].toNat
    let fails : Nat → Prop := fun i =>
      (i = 1 ∧ (kind = 6 ∨ kind = 7)) ∨
      (i = 2 ∧ start = 3) ∨
      (i = 3 ∧ notify = 3) ∨
      (i = 4 ∧ (kind = 3 ∨ kind = 5) ∧ 7 < target) ∨
      (i = 5 ∧ 7 < group) ∨
      (i = 6 ∧ kind = 2 ∧ width = 0) ∨
      (i = 7 ∧ period = 0 ∧ repeats ≠ 0) ∨
      (i = 8 ∧ kind = 2 ∧ period ≠ 0 ∧ period ≤ width) ∨
      (i = 9 ∧ start = 0 ∧ (2 ^ 30 < distance value tick ∨ distance value tick < -2 ^ 30)) ∨
      (i = 10 ∧ start = 1 ∧ 2 ^ 30 < value.toNat) ∨
      (i = 11 ∧ start = 2 ∧ 2 ^ 24 ≤ value.toNat) ∨
      (i = 12 ∧ start = 2 ∧ 7 < parkLine) ∨
      (i = 13 ∧ rearm = true ∧ start ≠ 2)
    (recordFault b tick = none ↔ ∀ i : Nat, ¬ fails i) ∧
    (∀ i : Nat, recordFault b tick = some i ↔ fails i ∧ ∀ j : Nat, j < i → ¬ fails j) ∧
    (recordFault b tick = none →
      let r := Layout.record b
      (∀ line : LineNo, line.val = target →
        (kind = 0 → r.action = .set line option) ∧ (kind = 1 → r.action = .toggle line) ∧
        (kind = 2 → r.action = .pulse line option width restore)) ∧
      (∀ frame : FrameNo, frame.val = target → kind = 3 → r.action = .send frame) ∧
      (kind = 4 → r.action = .signal option) ∧
      (∀ line : CapNo, line.val = target → kind = 5 → r.action = .gate line option) ∧
      (start = 0 → r.start = .absolute value) ∧ (start = 1 → r.start = .relative value) ∧
      (∀ line : CapNo, line.val = parkLine → start = 2 → r.start = .parked line value rearm) ∧
      r.period = (if period = 0 then none else some period) ∧ r.repeatsPosted = (if repeats = 0 then none else some repeats) ∧
      (r.late = .skip ↔ b[0].getLsbD 5 = true) ∧
      (r.notify = .never ↔ notify = 0) ∧ (r.notify = .atEnd ↔ notify = 1) ∧ (r.notify = .every ↔ notify = 2) ∧
      r.group.val = group)

/-! ### The time base -/

/-- TICK_EVENT while TICK counts: TICK advances by one modulo 2^32, the divider is 0, an overdue due left more than 2^30 ticks behind is moved
forward (R133), the samples go to the capture block, and an IDLE firing unit looks at the head. In STOPPED, or held in reset, there is none.
That the event is taken whatever the divider holds, and that the levels of CAP0 to CAP7 come as its operand, are the model's choices (log 8,
log 15); that there is none in reset is R139 (log 22); that R133's move belongs to the tick event is the model's reading (log 12), and `look` is
the model's own (log 9). -/
def Obligations.TickEventAdvancesTick : Prop :=
  ∀ (s : State) (samples : Byte),
    (s.sched.state ≠ .stopped → s.sched.hold = none →
      ∃ (slots : Vector Slot 64) (look : Bool),
        exec (.tickEvent (.advance samples)) s = .next { s with
          time := { s.time with tick := s.time.tick + 1, divider := 0 }
          slots := slots
          pins := { s.pins with cap := samples }
          flight := { s.flight with ticks := s.flight.ticks ++ [⟨s.time.tick + 1, samples⟩] }
          fire := { s.fire with look := look } } ∧
        (∀ n : SlotNo, s.slots[n].isOverdue = false → slots[n] = s.slots[n]) ∧
        (∀ (n : SlotNo) (due : Tick), s.slots[n].place = .overdue due →
          slots[n] = { s.slots[n] with place := .overdue (if -2 ^ 30 ≤ distance due (s.time.tick + 1) then due
            else match s.slots[n].record.period with
              | some p => due + BitVec.ofNat 32 p
              | none => s.time.tick + 1 - BitVec.ofNat 32 (2 ^ 30)) }) ∧
        (s.fire.unit ≠ .idle → look = s.fire.look) ∧
        (s.fire.unit = .idle → s.sched.state ≠ .recovering → ∀ (n : SlotNo) (rest : List SlotNo) (due : Tick) (phase : QueuePhase),
          s.fire.dueQueue = n :: rest → s.slots[n].place = .queued due phase → look = decide (distance due (s.time.tick + 1) ≤ 0))) ∧
    (s.sched.state = .stopped ∨ s.sched.hold.isSome = true → exec (.tickEvent (.advance samples)) s = .next s)

/-- A jump is accepted exactly when it is 0 (R9, R14), when the due queue is empty, or when its head would lie no more than 2^30 behind and its tail no
more than 2^30 ahead; after an accepted jump every entry of an ordered queue lies at its old distance less the jump, and within 2^30 on either side if
the jump is not 0 (R7).
That a jump of 0 passes where R7's check would refuse it is the model's choice (log 29). -/
def Obligations.AcceptedJumpShiftsEveryDistance : Prop :=
  ∀ (s : State) (new : Tick),
    let j := distance new s.time.tick
    (s.jumpAllowed new = true ↔
      new = s.time.tick ∨
      ∀ h t : SlotNo, s.fire.dueQueue.head? = some h → s.fire.dueQueue.getLast? = some t →
        -2 ^ 30 ≤ s.slotDistance h - j ∧ s.slotDistance t - j ≤ 2 ^ 30) ∧
    (s.jumpAllowed new = true → s.InOrder →
      ∀ (n : SlotNo) (due : Tick) (phase : QueuePhase), n ∈ s.fire.dueQueue → s.slots[n].place = .queued due phase →
        distance due new = distance due s.time.tick - j ∧
        (new ≠ s.time.tick → -2 ^ 30 ≤ distance due new ∧ distance due new ≤ 2 ^ 30))

/-- SET_TIME (R9, R10): STATE outside STOPPED; RANGE when the jump is refused; and otherwise TICK loaded, the divider cleared, and the jump handed on.
A new value equal to TICK always passes; that it does so where R7's check would refuse it is the model's choice (log 29). -/
def Obligations.SetTimeLoadsOrRefuses : Prop :=
  ∀ s : State, s.accepted 0x30 →
    let b := s.engine.snapshot
    let new : Tick := b[3] ++ b[2] ++ b[1] ++ b[0]
    let found := bytes32 s.time.tick ++ [byteOf s.fire.dueQueue.length]
    (s.sched.state ≠ .stopped → exec (.setTime .action) s = .next { s with engine := s.engine.withResult .state [] }) ∧
    (s.sched.state = .stopped → s.jumpAllowed new = false →
      exec (.setTime .action) s = .next { s with engine := s.engine.withResult .range found }) ∧
    (s.sched.state = .stopped → (s.jumpAllowed new = true ∨ new = s.time.tick) →
      ∃ look : Bool, exec (.setTime .action) s = .next { s with
        time := { s.time with tick := new, divider := 0 }
        fire := { s.fire with look := look }
        flight := { s.flight with jumps := s.flight.jumps ++ [new], markClears := s.flight.markClears + 1 }
        engine := s.engine.withResult .ok found })

/-- SYNC_EDGE, a sample of SYNC (R12, R14): the detector keeps the sampled level; a sample at 1 after one at 0 is an edge, at which an armed part that
is RUNNING takes the jump to SYNCVAL, or refuses it, disarms and tells it; every other sample is kept by the detector alone, and one while the part is
held in reset moves the pin alone (R139, log 22).
That the row carries the sample's level is the model's reading (log 14), and that a jump of 0 passes where R7's check
would refuse it its choice (log 29). -/
def Obligations.SyncEdgeJumpsWhenArmed : Prop :=
  ∀ (s : State) (level : Bool),
    (s.sched.hold.isSome = true → exec (.syncEdge level) s = .next { s with pins := { s.pins with sync := level } }) ∧
    (s.sched.hold = none → (level = false ∨ s.time.syncSeen = true ∨ s.time.armed = false ∨ s.sched.state ≠ .running) →
      exec (.syncEdge level) s = .next { s with
        pins := { s.pins with sync := level }, time := { s.time with syncSeen := level } }) ∧
    (s.sched.hold = none → s.time.syncSeen = false → s.time.armed = true → s.sched.state = .running →
      (s.jumpAllowed s.time.syncVal = true ∨ s.time.syncVal = s.time.tick) →
      ∃ look : Bool, exec (.syncEdge true) s = .next { s with
        pins := { s.pins with sync := true }
        time := { s.time with tick := s.time.syncVal, divider := 0, armed := false, syncSeen := true }
        fire := { s.fire with look := look }
        flight := { s.flight with
          jumps := s.flight.jumps ++ [s.time.syncVal]
          markClears := s.flight.markClears + 1
          notices := s.flight.notices ++
            [⟨.timeBase, [{ kind := .synced, handle := none, time := s.time.syncVal, detail := 0 }], 0, false⟩] } }) ∧
    (s.sched.hold = none → s.time.syncSeen = false → s.time.armed = true → s.sched.state = .running →
      s.jumpAllowed s.time.syncVal = false →
      exec (.syncEdge true) s = .next { s with
        pins := { s.pins with sync := true }
        time := { s.time with armed := false, syncSeen := true }
        flight := { s.flight with
          notices := s.flight.notices ++
            [⟨.timeBase, [{ kind := .syncRejected, handle := none, time := s.time.tick, detail := 0 }], 0, false⟩] } })

/-- ARM_SYNC (R13), in every scheduler state: request 1 loads SYNCVAL and arms, request 0 disarms, any other value is BAD_ARG; OK reports the arm flag
and SYNCVAL found. STAT shows the arm flag. -/
def Obligations.ArmSyncSetsTheArmFlag : Prop :=
  ∀ s : State, s.accepted 0x31 →
    let b := s.engine.snapshot
    let found := flagByte s.time.armed :: bytes32 s.time.syncVal
    (b[0] = 1 → exec (.armSync .action) s = .next { s with
      time := { s.time with armed := true, syncVal := b[4] ++ b[3] ++ b[2] ++ b[1] }, engine := s.engine.withResult .ok found }) ∧
    (b[0] = 0 → exec (.armSync .action) s = .next { s with
      time := { s.time with armed := false }, engine := s.engine.withResult .ok found }) ∧
    (b[0] ≠ 0 → b[0] ≠ 1 → exec (.armSync .action) s = .next { s with engine := s.engine.withResult .badArg [] }) ∧
    (s.busRead 0x02).getLsbD 4 = s.time.armed

/-- TCK0_READ (R16): the latch takes TICK and byte 0 of it is returned; reads of TCK1 to TCK3 present bytes 1 to 3 of the latch, whatever TICK has
become, and writes to the four are ignored. The latch is 0 after reset and changes by TCK0 reads and resets alone. A part held in reset returns the
reset value (R139). That a read of TCK0 can also come as the bus access of REGISTER_WRITE's row is the model's choice (log 27). -/
def Obligations.Tck0ReadLatchesTick : Prop :=
  ∀ s : State,
    (s.sched.hold = none →
      exec .tck0Read s = .next { s with
        time := { s.time with latch := s.time.tick }, lastRead := some (s.time.tick.extractLsb' 0 8) }) ∧
    (s.sched.hold.isSome = true → exec .tck0Read s = .next { s with lastRead := some 0 }) ∧
    (s.busRead 0x09 = s.time.latch.extractLsb' 8 8 ∧ s.busRead 0x0A = s.time.latch.extractLsb' 16 8 ∧
      s.busRead 0x0B = s.time.latch.extractLsb' 24 8) ∧
    (∀ (v : Byte) (a : BitVec 7), a ∈ ([0x08, 0x09, 0x0A, 0x0B] : List (BitVec 7)) → exec (.registerWrite a v) s = .next s) ∧
    State.reset.time.latch = 0 ∧
    (∀ t : State, step s = .next t → t.time.latch ≠ s.time.latch →
      ∃ c : Instr, s.takes = some c ∧ (c = .tck0Read ∨ (∃ v : Byte, c = .registerWrite 0x08 v .read) ∨ resetsPart c = true))

/-- TCFG_WRITE (R2): a number from 4 to 12 written in STOPPED loads PSEL and clears the divider; every other write changes nothing, and so does one
while the part is held in reset (R139). A read of TCFG returns PSEL. -/
def Obligations.TcfgWriteLoadsPselInStopped : Prop :=
  ∀ (s : State) (v : Byte),
    (s.sched.hold = none → s.sched.state = .stopped → 4 ≤ v.toNat → v.toNat ≤ 12 →
      exec (.tcfgWrite v) s = .next { s with time := { s.time with psel := v.toNat, divider := 0 } }) ∧
    (s.sched.hold.isSome = true ∨ s.sched.state ≠ .stopped ∨ v.toNat < 4 ∨ 12 < v.toNat → exec (.tcfgWrite v) s = .next s) ∧
    s.busRead 0x0C = BitVec.ofNat 8 s.time.psel

/-! ### The due queue and the firing unit -/

/-- An insertion stands directly behind the last entry whose distance is not greater than its own, and at the head when there is none; an ordered
queue stays ordered (R41, R42). Every step keeps the order while no entry lies 2^31 ticks behind TICK (R6), and while nothing past lies ahead of TICK
it keeps the forward limit of 2^30 ticks (R44).
The forward limit leaves out a lead due ahead of TICK, which a backward jump brings about in the spec's own part (R8, R45; log 20, log 30). That an entry
can be left 2^31 ticks behind, and that the ticks of samples and filters can come to lie ahead or far behind, is the model's freedom to delay a block's
step (log 4, log 8). -/
def Obligations.InsertionStandsBehindItsEquals : Prop :=
  (∀ (s : State) (n : SlotNo) (sl : Slot) (due : Tick) (phase : QueuePhase),
    s.slots[n].isQueued = false → n ∉ s.fire.dueQueue → s.InOrder →
      ∃ before after : List SlotNo,
        s.fire.dueQueue = before ++ after ∧
        (s.putQueued n sl due phase).fire.dueQueue = before ++ n :: after ∧
        (∀ m ∈ before, s.slotDistance m ≤ distance due s.time.tick) ∧
        (∀ m ∈ after, distance due s.time.tick < s.slotDistance m) ∧
        (s.putQueued n sl due phase).slots[n] = { sl with place := .queued due phase } ∧
        (∀ m : SlotNo, m ≠ n → (s.putQueued n sl due phase).slots[m] = s.slots[m]) ∧
        (s.putQueued n sl due phase).InOrder) ∧
  (∀ s t : State, s.PlacesAgree → s.InOrder → s.ShortOfWrap → step s = .next t → t.InOrder) ∧
  (∀ s t : State, s.PlacesAgree → s.InOrder → s.ShortOfWrap → s.WithinForwardLimit → s.PastBehind → step s = .next t →
    t.WithinForwardLimit)

/-- FIRING of a due one-shot of a kind other than PULSE, on time or late under FIRE_ONCE: its one hand-off, LATE, FIRED and DONE in one hand-off,
and the slot freed with its tag, or with rearm at the tail of its park list with its repeats reloaded (R48, R51 to R59, R61, R62, R67, R68).
That a slot resumed with remaining 0 is on time while its distance is 0 is the model's choice (log 31). -/
def Obligations.FiringEndsAOneShot : Prop :=
  ∀ (s : State) (n : SlotNo) (rest : List SlotNo) (due : Tick),
    s.looksAt n rest → s.sched.state = .running →
    let sl := s.slots[n]
    let lateness := (distance due s.time.tick).natAbs
    let occurrences := min (sl.occurrences + 1) 65535
    sl.place = .queued due .lead → sl.executesAt due s.time.tick →
    sl.record.action.isPulse = false → sl.record.period = none → s.inNoPark n →
      let taken : State := { s with
        fire := { s.fire with dueQueue := rest, unit := .firing 0, look := false }
        flight := s.flight.afterLead n sl s.time.tick
          ((if distance due s.time.tick < 0 then lateOf n sl s.time.tick lateness else []) ++ firedOf n sl s.time.tick ++
            doneOf n sl s.time.tick occurrences) }
      (sl.record.start.rearm = false →
        exec .firing s = .next { taken with slots := s.slots.set n.val (Slot.freed sl.tag) n.isLt }) ∧
      (∀ (c : CapNo) (offset : Tick), sl.record.start = .parked c offset true →
        exec .firing s = .next { taken with
          slots := s.slots.set n.val { sl with occurrences := occurrences, repeats := sl.record.repeatsPosted, place := .parked } n.isLt
          cap := { s.cap with parks := s.cap.parks.set c.val (s.cap.parks[c] ++ [n]) c.isLt } })

/-- FIRING of a due periodic slot of a kind other than PULSE (R59, R60, R63): with work left it is queued again at the least due plus k periods ahead
of TICK, with k repeats used and k - 1 occurrences told as MISSED; with its repeats used up on the way it finishes, freed or parked again (R61, R62).
The entry is due, so that counting in whole numbers finds the same k as distances modulo 2^32 do (log 20). -/
def Obligations.FiringRealignsAPeriodicSlot : Prop :=
  ∀ (s : State) (n : SlotNo) (rest : List SlotNo) (due : Tick) (period k : Nat),
    s.looksAt n rest → s.sched.state = .running →
    let sl := s.slots[n]
    let lateness := (distance due s.time.tick).natAbs
    let occurrences := min (sl.occurrences + 1) 65535
    let told := (if distance due s.time.tick < 0 then lateOf n sl s.time.tick lateness else []) ++ firedOf n sl s.time.tick
    sl.place = .queued due .lead → sl.executesAt due s.time.tick →
    sl.record.action.isPulse = false → sl.record.period = some period → 0 < period → LeastAhead due s.time.tick period k →
      ((∀ q ∈ sl.repeats, k + 1 ≤ q) →
        let next := due + BitVec.ofNat 32 (k * period)
        let slots := s.slots.set n.val
          { sl with occurrences := occurrences, repeats := sl.repeats.map (· - k), place := .queued next .lead } n.isLt
        exec .firing s = .next { s with
          slots := slots
          fire := { s.fire with
            dueQueue := insertBehind (fun m => decide ({ s with slots := slots }.slotDistance m ≤ distance next s.time.tick)) n rest
            unit := .firing 0
            look := false }
          flight := s.flight.afterLead n sl s.time.tick (told ++ missedOf n sl s.time.tick (k - 1)) }) ∧
      (∀ q : Nat, sl.repeats = some q → 1 ≤ q → q ≤ k → s.inNoPark n →
        exec .firing s = .next ({ s with
          fire := { s.fire with dueQueue := rest, unit := .firing 0, look := false }
          flight := s.flight.afterLead n sl s.time.tick
            (told ++ (missedOf n sl s.time.tick (q - 1) ++ doneOf n sl s.time.tick occurrences)) }.stand n
              ({ sl with occurrences := occurrences }.ended false)))

/-- FIRING of a due PULSE in phase LEAD (R45, R53): the active level is handed over, and the slot is queued in phase TRAIL a full width ahead, its lead
due kept, its occurrences unchanged. -/
def Obligations.FiringBeginsAPulse : Prop :=
  ∀ (s : State) (n : SlotNo) (rest : List SlotNo) (due : Tick) (line : LineNo) (active restore : Bool) (width : Nat),
    s.looksAt n rest → s.sched.state = .running →
    let sl := s.slots[n]
    let tick := s.time.tick
    sl.place = .queued due .lead → sl.executesAt due tick → sl.record.action = .pulse line active width restore →
      let trailDue := tick + BitVec.ofNat 32 width
      let slots := s.slots.set n.val { sl with place := .queued trailDue (.trail due false) } n.isLt
      exec .firing s = .next { s with
        slots := slots
        fire := { s.fire with
          dueQueue := insertBehind (fun m => decide ({ s with slots := slots }.slotDistance m ≤ distance trailDue tick)) n rest
          unit := .firing 0
          look := false }
        flight := { s.flight with
          edges := s.flight.edges ++ [{ line := line, drive := .level active, handle := ⟨n, sl.tag⟩, tick := tick }]
          notices := s.flight.notices ++ batchOf .firing
            ((if distance due tick < 0 then lateOf n sl tick (distance due tick).natAbs else []) ++ firedOf n sl tick) } }

/-- FIRING of a due TRAIL entry of a PULSE, in RUNNING or RECOVERING and under either late policy (R36, R54, R59 to R62, R66): the inverse of the active
level is handed over, and the occurrence is counted from the lead due. A one-shot, and a periodic slot whose repeats are used up, finishes with DONE,
freed or parked again, or is held for END when suspend pending is set. Any other periodic slot is queued at the least lead due plus k periods ahead of
TICK, or held with that distance as remaining when suspend pending is set, with k - 1 occurrences told as MISSED.
Where the lead due lies ahead of TICK the formula of R60 is followed: the model's choice (log 30). -/
def Obligations.FiringEndsAPulse : Prop :=
  ∀ (s : State) (n : SlotNo) (rest : List SlotNo) (due leadDue : Tick) (pend : Bool) (line : LineNo) (active restore : Bool) (width : Nat),
    s.looksAt n rest → (s.sched.state = .running ∨ s.sched.state = .recovering) →
    let sl := s.slots[n]
    let tick := s.time.tick
    let occurrences := min (sl.occurrences + 1) 65535
    let counted : Slot := { sl with occurrences := occurrences, repeats := sl.repeats.map (· - 1) }
    let late := if distance due tick < 0 then lateOf n sl tick (distance due tick).natAbs else []
    let taken (more : List Notice) : State := { s with
      fire := { s.fire with dueQueue := rest, unit := .firing 0, look := false }
      flight := { s.flight with
        edges := s.flight.edges ++ [{ line := line, drive := .level (!active), handle := ⟨n, sl.tag⟩, tick := tick }]
        notices := s.flight.notices ++ batchOf .firing (late ++ more) } }
    let done := if pend then [] else doneOf n sl tick occurrences
    sl.place = .queued due (.trail leadDue pend) → distance due tick ≤ 0 → sl.record.action = .pulse line active width restore →
    s.inNoPark n →
      (sl.record.period = none ∨ sl.repeats = some 1 → exec .firing s = .next ((taken done).stand n (counted.ended pend))) ∧
      (∀ period k : Nat, sl.record.period = some period → 0 < period → period < 16777216 → NextAhead leadDue tick period k →
        ((∀ q ∈ sl.repeats, k + 1 ≤ q) →
          let next := leadDue + BitVec.ofNat 32 (k * period)
          exec .firing s = .next ((taken (missedOf n sl tick (k - 1))).stand n { sl with
            occurrences := occurrences
            repeats := sl.repeats.map (· - k)
            place := if pend then .held (.queue (next - tick)) else .queued next .lead })) ∧
        (∀ q : Nat, sl.repeats = some q → 2 ≤ q → q ≤ k →
          exec .firing s = .next ((taken (missedOf n sl tick (q - 1) ++ done)).stand n
            ({ sl with occurrences := occurrences, repeats := some 0 }.ended pend))))

/-- FIRING of a late entry under SKIP (R64, R65): nothing is executed and the occurrences stay. A one-shot has MISSED with detail 1 told, without DONE, and is
freed, or with rearm stands at the tail of its park list with its repeats reloaded (R62). A periodic slot is queued at the least due plus k periods
ahead of TICK, with k repeats used and MISSED telling k; with its repeats used up on the way it finishes, with MISSED and DONE. -/
def Obligations.LateOneShotIsSkipped : Prop :=
  ∀ (s : State) (n : SlotNo) (rest : List SlotNo) (due : Tick),
    s.looksAt n rest → s.sched.state = .running →
    let sl := s.slots[n]
    let missed : List NoticeBatch := [⟨.firing, [{ kind := .missed, handle := some ⟨n, sl.tag⟩, time := s.time.tick, detail := 1 }], 0, false⟩]
    sl.place = .queued due .lead → distance due s.time.tick < 0 → sl.record.late = .skip →
      (sl.record.period = none → sl.record.start.rearm = false →
        exec .firing s = .next { s with
          slots := s.slots.set n.val (Slot.freed sl.tag) n.isLt
          fire := { s.fire with dueQueue := rest, unit := .firing 0, look := false }
          flight := { s.flight with notices := s.flight.notices ++ missed } }) ∧
      (∀ (c : CapNo) (offset : Tick), sl.record.period = none → sl.record.start = .parked c offset true → n ∉ s.cap.parks[c] →
        exec .firing s = .next { s with
          slots := s.slots.set n.val { sl with repeats := sl.record.repeatsPosted, place := .parked } n.isLt
          fire := { s.fire with dueQueue := rest, unit := .firing 0, look := false }
          cap := { s.cap with parks := s.cap.parks.set c.val (s.cap.parks[c] ++ [n]) c.isLt }
          flight := { s.flight with notices := s.flight.notices ++ missed } }) ∧
      (∀ period k : Nat, sl.record.period = some period → 0 < period → LeastAhead due s.time.tick period k →
        let taken (ns : List Notice) : State := { s with
          fire := { s.fire with dueQueue := rest, unit := .firing 0, look := false }
          flight := { s.flight with notices := s.flight.notices ++ batchOf .firing ns } }
        ((∀ q ∈ sl.repeats, k + 1 ≤ q) →
          exec .firing s = .next ((taken (missedOf n sl s.time.tick k)).stand n { sl with
            repeats := sl.repeats.map (· - k)
            place := .queued (due + BitVec.ofNat 32 (k * period)) .lead })) ∧
        (∀ q : Nat, sl.repeats = some q → 1 ≤ q → q ≤ k → s.inNoPark n →
          exec .firing s = .next ((taken (missedOf n sl s.time.tick q ++ doneOf n sl s.time.tick sl.occurrences)).stand n (sl.ended false))))

/-- DIVERSION (R134): in HALTED or RECOVERING a due LEAD head moves to the overdue tail with its due and record unchanged, and nothing is executed or
told. RETURN_TO_IDLE (R48): the unit is IDLE and looks at the queues (R47).
That RETURN_TO_IDLE is taken whenever it is given is the model's choice (log 8). -/
def Obligations.DiversionSetsTheHeadAside : Prop :=
  (∀ (s : State) (n : SlotNo) (rest : List SlotNo) (due : Tick),
    s.looksAt n rest → (s.sched.state = .halted ∨ s.sched.state = .recovering) →
    s.slots[n].place = .queued due .lead → distance due s.time.tick ≤ 0 →
      exec .diversion s = .next { s with
        slots := s.slots.set n.val { s.slots[n] with place := .overdue due } n.isLt
        fire := { s.fire with dueQueue := rest, overdue := s.fire.overdue ++ [n], unit := .firing 0, look := false } }) ∧
  (∀ (s : State) (periods : Nat), s.fire.unit = .firing periods →
    ∃ look : Bool, exec .returnToIdle s = .next { s with fire := { s.fire with unit := .idle, look := look } } ∧
      (s.sched.state = .stopped → look = false) ∧ (s.sched.state = .recovering → look = true) ∧
      (s.sched.state = .running ∨ s.sched.state = .halted →
        (look = true ↔ ∃ h : SlotNo, s.fire.dueQueue.head? = some h ∧ s.slotDistance h ≤ 0)))

/-- DRAIN_STEP (R136): with no due head the overdue head is handled as a late LEAD entry at any distance, and the drain count rises. Under FIRE_ONCE it is
executed with LATE: a one-shot ends with DONE, a PULSE begins with its trailing edge a full width ahead, a periodic slot is realigned. Under SKIP it
is left unexecuted: a one-shot ends with MISSED alone, a periodic slot is realigned with MISSED (R59 to R65). DRAIN_END (R137): with an empty overdue
list RECOVERING becomes RUNNING with RECOVERED and the drain count, and START completes with OK and the window of R125.
That START completes in the step that ends the drain is the model's reading (log 10). -/
def Obligations.DrainWorksOffTheOverdueList : Prop :=
  ∀ s : State, s.fire.unit = .idle → s.fire.look = true → s.sched.state = .recovering →
    (∀ h : SlotNo, s.fire.dueQueue.head? = some h → 0 < s.slotDistance h) →
    (∀ (n : SlotNo) (rest : List SlotNo) (due : Tick), s.fire.overdue = n :: rest →
      let sl := s.slots[n]
      let tick := s.time.tick
      let occurrences := min (sl.occurrences + 1) 65535
      let told := lateOf n sl tick (distance due tick).natAbs ++ firedOf n sl tick
      let drained (flight : Flight) : State := { s with
        fire := { s.fire with overdue := rest, unit := .firing 0, look := false }
        sched := { s.sched with drainCount := min (s.sched.drainCount + 1) 65535 }
        flight := flight }
      let silent (ns : List Notice) : Flight := { s.flight with notices := s.flight.notices ++ batchOf .firing ns }
      sl.place = .overdue due → s.inNoPark n →
        (sl.record.late = .fireOnce → sl.record.action.isPulse = false → sl.record.period = none →
          exec .drainStep s = .next ((drained (s.flight.afterLead n sl tick (told ++ doneOf n sl tick occurrences))).stand n
            ({ sl with occurrences := occurrences, repeats := sl.repeats.map (· - 1) }.ended false))) ∧
        (sl.record.late = .skip → sl.record.period = none →
          exec .drainStep s = .next ((drained { s.flight with notices := s.flight.notices ++
            [⟨.firing, [{ kind := .missed, handle := some ⟨n, sl.tag⟩, time := tick, detail := 1 }], 0, false⟩] }).stand n (sl.ended false))) ∧
        (∀ (line : LineNo) (active restore : Bool) (width : Nat), sl.record.late = .fireOnce →
          sl.record.action = .pulse line active width restore →
          exec .drainStep s = .next ((drained { s.flight with
            edges := s.flight.edges ++ [{ line := line, drive := .level active, handle := ⟨n, sl.tag⟩, tick := tick }]
            notices := s.flight.notices ++ batchOf .firing told }).stand n
              { sl with place := .queued (tick + BitVec.ofNat 32 width) (.trail due false) })) ∧
        (∀ period k : Nat, sl.record.period = some period → 0 < period → period < 16777216 → NextAhead due tick period k →
          let next := due + BitVec.ofNat 32 (k * period)
          (sl.record.late = .fireOnce → sl.record.action.isPulse = false →
            ((∀ q ∈ sl.repeats, k + 1 ≤ q) →
              exec .drainStep s = .next ((drained (s.flight.afterLead n sl tick (told ++ missedOf n sl tick (k - 1)))).stand n
                { sl with occurrences := occurrences, repeats := sl.repeats.map (· - k), place := .queued next .lead })) ∧
            (∀ q : Nat, sl.repeats = some q → 1 ≤ q → q ≤ k →
              exec .drainStep s = .next ((drained (s.flight.afterLead n sl tick
                (told ++ (missedOf n sl tick (q - 1) ++ doneOf n sl tick occurrences)))).stand n
                  ({ sl with occurrences := occurrences }.ended false)))) ∧
          (sl.record.late = .skip →
            ((∀ q ∈ sl.repeats, k + 1 ≤ q) →
              exec .drainStep s = .next ((drained (silent (missedOf n sl tick k))).stand n
                { sl with repeats := sl.repeats.map (· - k), place := .queued next .lead })) ∧
            (∀ q : Nat, sl.repeats = some q → 1 ≤ q → q ≤ k →
              exec .drainStep s = .next ((drained (silent (missedOf n sl tick q ++ doneOf n sl tick sl.occurrences))).stand n
                (sl.ended false)))))) ∧
    (s.fire.overdue = [] →
      exec .drainEnd s = .next { s with
        sched := { s.sched with state := .running }
        fire := { s.fire with look := false }
        engine := { s.engine with
          state := .ready
          result := .ok
          window := windowOf [2, BitVec.ofNat 8 s.sched.drainCount, BitVec.ofNat 8 (s.sched.drainCount / 256), 0] }
        flight := { s.flight with
          flags := s.flight.flags ++ [.cmdDone]
          notices := s.flight.notices ++
            [⟨.scheduler, [{ kind := .recovered, handle := none, time := s.time.tick, detail := BitVec.ofNat 8 (min s.sched.drainCount 255) }], 0, false⟩] } })

/-! ### The output block -/

/-- EDGE_REQUEST and RESTORE_REQUEST (R72 to R75, R78): on a SCHEDULED line outside the safe hold the line is driven and marked, with CONFLICT when
the mark already holds the request's tick; otherwise nothing moves and BLOCKED is told. No other line moves. -/
def Obligations.RequestsDriveOrAreBlocked : Prop :=
  ∀ (s : State) (r : EdgeRequest) (rest : List EdgeRequest) (restoring : Bool),
    (if restoring then s.flight.restores else s.flight.edges) = r :: rest →
    let cmd : Instr := if restoring then .restoreRequest else .edgeRequest
    let taken : Flight := if restoring then { s.flight with restores := rest } else { s.flight with edges := rest }
    let tell (kind : NoticeKind) : List NoticeBatch :=
      [⟨.output, [{ kind := kind, handle := some r.handle, time := r.tick, detail := byteOf r.line.val }], 0, false⟩]
    (s.out.mode.getLsbD r.line.val = true → s.out.safeHold = false →
      ∃ level : Lines,
        exec cmd s = .next { s with
          out := { s.out with level := level, marks := s.out.marks.set r.line.val (some r.tick) r.line.isLt }
          flight := { taken with
            notices := s.flight.notices ++ (if s.out.marks[r.line] = some r.tick then tell .conflict else []) } } ∧
        (level.getLsbD r.line.val = match r.drive with
          | .level v => v
          | .inverse => !s.out.level.getLsbD r.line.val) ∧
        ∀ i : LineNo, i ≠ r.line → level.getLsbD i.val = s.out.level.getLsbD i.val) ∧
    (s.out.mode.getLsbD r.line.val = false ∨ s.out.safeHold = true →
      exec cmd s = .next { s with flight := { taken with notices := s.flight.notices ++ tell .blocked } })

/-- LMOD, DLVL, SAFE and STAT writes, line by line (R70, R71, R79, R80, R180): which bits of the written byte's lines change, which lines are driven, in
and outside the safe hold, and nothing else. While the part is held in reset they are ignored (R139). -/
def Obligations.LineWritesDriveTheLinesTheyShould : Prop :=
  ∀ (s : State) (half : LineHalf) (v : Byte),
    let bit (old : Lines) (i : LineNo) : Bool := if halfHolds half i then v.getLsbD (i.val % 8) else old.getLsbD i.val
    (s.sched.hold = none →
      (∃ mode level : Lines,
        exec (.lmodWrite half v) s = .next { s with out := { s.out with mode := mode, level := level } } ∧
        ∀ i : LineNo, mode.getLsbD i.val = bit s.out.mode i ∧
          level.getLsbD i.val =
            (if s.out.safeHold = false ∧ s.out.mode.getLsbD i.val = true ∧ mode.getLsbD i.val = false then s.out.latch.getLsbD i.val
             else s.out.level.getLsbD i.val)) ∧
      (∃ latch level : Lines,
        exec (.dlvlWrite half v) s =
          .next { s with out := { s.out with latch := latch, level := level, lvlref := s.out.lvlref || s.out.safeHold } } ∧
        ∀ i : LineNo, latch.getLsbD i.val = bit s.out.latch i ∧
          level.getLsbD i.val =
            (if s.out.safeHold = false ∧ halfHolds half i = true ∧ s.out.mode.getLsbD i.val = false then v.getLsbD (i.val % 8)
             else s.out.level.getLsbD i.val)) ∧
      (∃ safe level : Lines,
        exec (.safeWrite half v) s = .next { s with out := { s.out with safe := safe, level := level } } ∧
        ∀ i : LineNo, safe.getLsbD i.val = bit s.out.safe i ∧
          level.getLsbD i.val =
            (if s.out.safeHold = true ∧ safe.getLsbD i.val ≠ s.out.safe.getLsbD i.val then safe.getLsbD i.val
             else s.out.level.getLsbD i.val)) ∧
      exec (.lvlrefClear v) s = .next { s with out := { s.out with lvlref := s.out.lvlref && !v.getLsbD 5 } }) ∧
    (s.sched.hold.isSome = true →
      exec (.lmodWrite half v) s = .next s ∧ exec (.dlvlWrite half v) s = .next s ∧ exec (.safeWrite half v) s = .next s ∧
      exec (.lvlrefClear v) s = .next s)

/-! ### The capture block -/

/-- The filter (R84, R85): from idle at the accepted level, the N-th confirming sample after the transition sample accepts the edge, dated with the
transition's tick, and not before; a sample at the accepted level cancels it without a trace. -/
def Obligations.FilterAcceptsAfterItsLength : Prop :=
  ∀ (l : CapLine) (transition : Tick) (confirming : List Tick),
    l.filter = .idle →
    let away : List (Tick × Bool) := (transition, !l.accepted) :: confirming.map fun t => (t, !l.accepted)
    (confirming.length = l.filterLength →
      l.feed away = ({ l with accepted := !l.accepted, filter := .idle }, [transition])) ∧
    (confirming.length < l.filterLength →
      l.feed away = ({ l with filter := .running transition confirming.length }, []) ∧
      ∀ back : Tick, l.feed (away ++ [(back, l.accepted)]) = (l, [])) ∧
    (∀ ticks : List Tick, l.feed (ticks.map fun t => (t, l.accepted)) = (l, []))

/-- The capture block's step on one tick event, whole, as EDGE_ACCEPTED when some line accepts an edge and as the sample step of TICK_EVENT in any case
(R85 to R87). NONE, RISE, FALL and BOTH count the edges that R86 says; an accepted edge that is not counted sets its accepted level alone. The counted
edges are handled in ascending line number: each is logged where its line logs, or lost once the log is full (R94, R95); an OPEN gate in RUNNING or
RECOVERING releases the line's whole park list, each slot due at the timestamp plus its offset and inserted in that order (R42, R101), and a one-shot gate
closes (R102).
The sample step of TICK_EVENT is the model's split of the row (log 3, log 25), and that EDGE_ACCEPTED changes nothing where no edge is accepted its choice
(log 1). -/
def Obligations.CountedEdgeIsLoggedAndReleases : Prop :=
  ∀ (s : State) (ts : TickSample) (rest : List TickSample), s.PlacesAgree → s.flight.ticks = ts :: rest →
    let after (c : CapNo) : CapLine × Option Tick := s.cap.lines[c].sample ts.tick (ts.samples.getLsbD c.val)
    let admitted (l : CapLine) : Bool :=
      match l.select with
      | .none => false
      | .rise => l.accepted
      | .fall => !l.accepted
      | .both => true
    let counted : List (CapNo × Tick) := (List.finRange 8).filterMap fun c =>
      if admitted (after c).1 then (after c).2.map fun edge => (c, edge) else none
    let releasing : List (CapNo × Tick) := counted.filter fun e =>
      (after e.1).1.gateOpen && (s.sched.state == .running || s.sched.state == .recovering)
    let logged : List (CapNo × Tick) := counted.filter fun e => (after e.1).1.logEnable
    let stored := logged.take (32 - s.cap.log.length)
    let lost := logged.length - stored.length
    let released (c : CapNo) : Bool := releasing.any fun e => e.1 == c
    ∃ t : State, exec (.tickEvent .sample) s = .next t ∧
      ((∃ c : CapNo, (after c).2 ≠ none) → exec .edgeAccepted s = .next t) ∧
      ((∀ c : CapNo, (after c).2 = none) → exec .edgeAccepted s = .next s) ∧
      (∀ c : CapNo, t.cap.lines[c] =
        { (after c).1 with gateOpen := (after c).1.gateOpen && !(released c && (after c).1.oneShot) }) ∧
      t.cap.log = s.cap.log ++ (stored.mapIdx fun i e =>
        ({ line := e.1, rise := (after e.1).1.accepted, timestamp := e.2, gap := decide (i = 0) && s.cap.gapPending } : LogEntry)) ∧
      t.cap.clost = (if lost = 0 then s.cap.clost else min (s.cap.clost + lost) 255) ∧
      t.cap.gapPending = (if lost ≠ 0 then true else if stored ≠ [] then false else s.cap.gapPending) ∧
      t.flight = { s.flight with ticks := rest, flags := s.flight.flags ++ List.replicate lost .captureLost } ∧
      (∀ c : CapNo, t.cap.parks[c] = if released c then [] else s.cap.parks[c]) ∧
      (∀ e ∈ releasing, ∀ n ∈ s.cap.parks[e.1],
        t.slots[n] = { s.slots[n] with place := .queued (e.2 + s.slots[n].record.start.value) .lead }) ∧
      (∀ n : SlotNo, (∀ e ∈ releasing, n ∉ s.cap.parks[e.1]) → t.slots[n] = s.slots[n]) ∧
      t.fire.dueQueue = t.insertAll (releasing.flatMap fun e => s.cap.parks[e.1]) s.fire.dueQueue ∧
      t.time = s.time ∧ t.out = s.out ∧ t.chan = s.chan ∧ t.sched = s.sched ∧ t.engine = s.engine ∧ t.notes = s.notes ∧ t.pins = s.pins ∧
      t.lastRead = s.lastRead ∧ t.fire.overdue = s.fire.overdue ∧ t.fire.unit = s.fire.unit

/-- GATE_REQUEST sets the gate of its line (R97). PARK_LIST_APPEND puts a PARKED slot at the tail of its line's list once (R99). CAPTURE_TIME_JUMP
restarts every filter in progress at the new TICK (R88), and EDGE_MARK_CLEAR clears every line's edge mark (R74).
What PARK_LIST_APPEND does as a command of its own is the model's reading (log 6). -/
def Obligations.CaptureAndOutputTakeTheirHandOffs : Prop :=
  (∀ (s : State) (r : GateRequest) (rest : List GateRequest), s.flight.gates = r :: rest →
    exec .gateRequest s = .next { s with
      flight := { s.flight with gates := rest }
      cap := { s.cap with lines := s.cap.lines.set r.line.val { s.cap.lines[r.line] with gateOpen := r.opens } r.line.isLt } }) ∧
  (∀ (s : State) (n : SlotNo) (c : CapNo), s.slots[n].place = .parked → s.slots[n].record.start.parkLine = some c →
    (n ∉ s.cap.parks[c] →
      exec (.parkListAppend n) s = .next { s with cap := { s.cap with parks := s.cap.parks.set c.val (s.cap.parks[c] ++ [n]) c.isLt } }) ∧
    (n ∈ s.cap.parks[c] → exec (.parkListAppend n) s = .next s)) ∧
  (∀ (s : State) (new : Tick) (rest : List Tick), s.flight.jumps = new :: rest →
    ∃ lines : Vector CapLine 8,
      exec .captureTimeJump s = .next { s with flight := { s.flight with jumps := rest }, cap := { s.cap with lines := lines } } ∧
      ∀ c : CapNo, (s.cap.lines[c].filter = .idle → lines[c] = s.cap.lines[c]) ∧
        (∀ (from_ : Tick) (count : Nat), s.cap.lines[c].filter = .running from_ count →
          lines[c] = { s.cap.lines[c] with filter := .running new 0 })) ∧
  (∀ (s : State) (k : Nat), s.flight.markClears = k + 1 →
    ∃ marks : Vector (Option Tick) 16,
      exec .edgeMarkClear s = .next { s with flight := { s.flight with markClears := k }, out := { s.out with marks := marks } } ∧
      ∀ i : LineNo, marks[i] = none)

/-- CAP_SETUP (R90 to R92): the first illegal byte in the order 0, 6, 1, 2, 3, 4, 5 gives BAD_ARG, bytes 1 to 5 only for a load; a load replaces the
line's configuration and abandons its filter; a load and a read report the line as they found it. -/
def Obligations.CapSetupLoadsOrReadsALine : Prop :=
  ∀ (s : State) (c : CapNo), s.accepted 0x28 →
    let b := s.engine.snapshot
    let l := s.cap.lines[c]
    let found : List Byte :=
      [(match l.select with
        | .none => 0
        | .rise => 1
        | .fall => 2
        | .both => 3), byteOf l.filterLength, flagByte l.logEnable, flagByte l.gateOpen, flagByte l.oneShot, flagByte l.accepted,
       flagByte (l.filter != .idle), byteOf s.cap.parks[c].length]
    let bad (i : Byte) := exec (.capSetup .action) s = .next { s with engine := s.engine.withResult .badArg [i] }
    (7 < b[0].toNat → bad 0) ∧
    (b[0].toNat ≤ 7 → 1 < b[6].toNat → bad 6) ∧
    (b[0].toNat = c.val → b[6] = 1 → exec (.capSetup .action) s = .next { s with engine := s.engine.withResult .ok found }) ∧
    (b[0].toNat = c.val → b[6] = 0 →
      (3 < b[1].toNat → bad 1) ∧
      (b[1].toNat ≤ 3 → 15 < b[2].toNat → bad 2) ∧
      (b[1].toNat ≤ 3 → b[2].toNat ≤ 15 → 1 < b[3].toNat → bad 3) ∧
      (b[1].toNat ≤ 3 → b[2].toNat ≤ 15 → b[3].toNat ≤ 1 → 1 < b[4].toNat → bad 4) ∧
      (b[1].toNat ≤ 3 → b[2].toNat ≤ 15 → b[3].toNat ≤ 1 → b[4].toNat ≤ 1 → 1 < b[5].toNat → bad 5) ∧
      (b[1].toNat ≤ 3 → b[2].toNat ≤ 15 → b[3].toNat ≤ 1 → b[4].toNat ≤ 1 → b[5].toNat ≤ 1 →
        let select : EdgeSelect := if b[1] = 0 then .none else if b[1] = 1 then .rise else if b[1] = 2 then .fall else .both
        let loaded : CapLine :=
          { l with select := select, filterLength := b[2].toNat, logEnable := b[3] == 1, gateOpen := b[4] == 1, oneShot := b[5] == 1,
                   filter := .idle }
        exec (.capSetup .action) s = .next { s with
          cap := { s.cap with lines := s.cap.lines.set c.val loaded c.isLt }
          engine := s.engine.withResult .ok found }))

/-! ### The frame channel -/

/-- SEND_REQUEST (R111), judged in its order: FRAME_EMPTY, SEND_ABORTED under the halt hold, SEND_DROPPED on a full queue, and otherwise the entry at
the tail and the frame's lock count raised by 1. -/
def Obligations.SendRequestIsJudgedInOrder : Prop :=
  ∀ (s : State) (e : SendEntry) (rest : List SendEntry), s.flight.sends = e :: rest →
    let refused (kind : NoticeKind) (detail : Byte) : Prop :=
      exec .sendRequest s = .next { s with flight := { s.flight with
        sends := rest
        notices := s.flight.notices ++
          [⟨.frame, [{ kind := kind, handle := some e.handle, time := e.tick, detail := detail }], haltsWaiting s.flight.frameCtl, false⟩] } }
    (s.chan.frames[e.frame].bytes = [] → refused .frameEmpty (byteOf e.frame.val)) ∧
    (s.chan.frames[e.frame].bytes ≠ [] → s.chan.haltHold = true → refused .sendAborted 0) ∧
    (s.chan.frames[e.frame].bytes ≠ [] → s.chan.haltHold = false → 8 ≤ s.chan.queue.length → refused .sendDropped (byteOf e.frame.val)) ∧
    (s.chan.frames[e.frame].bytes ≠ [] → s.chan.haltHold = false → s.chan.queue.length < 8 →
      ∃ frames : Vector Frame 8,
        exec .sendRequest s = .next { s with
          flight := { s.flight with sends := rest }
          chan := { s.chan with frames := frames, queue := s.chan.queue ++ [e] } } ∧
        frames[e.frame] = { s.chan.frames[e.frame] with lock := s.chan.frames[e.frame].lock + 1 } ∧
        ∀ f : FrameNo, f ≠ e.frame → frames[f] = s.chan.frames[f])

/-- HALT_REQUEST (R118, R119): the halt hold comes into force, the queue is flushed from head to tail with SEND_ABORTED and detail 0, each frame's lock
count falls by its entries, and a frame in its lead-in or data becomes ABORTING. END_REQUEST (R120): the hold ends. That a waiting halt request is the
next step while no command waits is the model's choice (log 2). -/
def Obligations.HaltRequestFlushesTheChannel : Prop :=
  (∀ (s : State) (rest : List FrameCtl), s.flight.frameCtl = .halt :: rest →
    ∃ frames : Vector Frame 8,
      exec .haltRequest s = .next { s with
        flight := { s.flight with
          frameCtl := rest
          notices := s.flight.notices ++ batchOf .frame (s.chan.queue.map fun e =>
            ({ kind := .sendAborted, handle := some e.handle, time := e.tick, detail := 0 } : Notice)) (haltsWaiting rest) }
        chan := { s.chan with
          frames := frames
          queue := []
          haltHold := true
          shifter := s.chan.shifter.map fun sh =>
            if sh.phase = .leadIn ∨ sh.phase = .data then { sh with aborting := true } else sh } } ∧
      (s.pending = [] → step s = exec .haltRequest s) ∧
      ∀ f : FrameNo, frames[f] =
        { s.chan.frames[f] with lock := s.chan.frames[f].lock - (s.chan.queue.filter fun e => e.frame == f).length }) ∧
  (∀ (s : State) (rest : List FrameCtl), s.flight.frameCtl = .finish :: rest →
    exec .endRequest s = .next { s with flight := { s.flight with frameCtl := rest }, chan := { s.chan with haltHold := false } })

/-- SHIFTER_START (R115) takes the head entry, and while no command waits, nor a halt or end request (log 2), it is the step that follows the append;
FRAME_END (R116) and ABORTED_FRAME_END (R119) end the lead-out, lower the lock count, tell SENT or SEND_ABORTED with the whole bytes sent, and begin the
gap; GAP_END (R116) takes the next entry, or leaves the shifter IDLE and asks for SERIAL_IDLE.
That the ends of frame and gap are taken whenever they are given is the model's choice (log 8). -/
def Obligations.ShifterTakesAndEndsFrames : Prop :=
  ∀ s : State,
    let began (e : SendEntry) : Shift := { aborting := false, entry := e, phase := .leadIn, bit := 0, secondHalf := false, bytesSent := 0 }
    (∀ (e : SendEntry) (rest : List SendEntry), s.chan.shifter = none → s.chan.queue = e :: rest →
      exec .shifterStart s = .next { s with chan := { s.chan with queue := rest, shifter := some (began e), bitDivider := 0 } } ∧
      (s.pending = [] → s.flight.frameCtl = [] → step s = exec .shifterStart s)) ∧
    (∀ sh : Shift, s.chan.shifter = some sh → sh.phase = .leadOut → sh.secondHalf = true →
      let e := sh.entry
      let f := e.frame
      let frames := s.chan.frames.set f.val { s.chan.frames[f] with lock := s.chan.frames[f].lock - 1 } f.isLt
      let chan := { s.chan with frames := frames, shifter := some { sh with phase := .gap, bit := 0, secondHalf := false }, bitDivider := 0 }
      let sent : Notice := { kind := .sent, handle := some e.handle, time := s.time.tick, detail := byteOf f.val }
      (sh.aborting = false →
        exec .frameEnd s = .next { s with
          chan := chan
          flight := { s.flight with
            notices := s.flight.notices ++ batchOf .frame (if e.notify = .never then [] else [sent]) (haltsWaiting s.flight.frameCtl) } }) ∧
      (sh.aborting = true →
        exec .abortedFrameEnd s = .next { s with
          chan := chan
          flight := { s.flight with notices := s.flight.notices ++
            [⟨.frame, [{ kind := .sendAborted, handle := some e.handle, time := e.tick, detail := byteOf sh.bytesSent }],
              haltsWaiting s.flight.frameCtl, false⟩] } })) ∧
    (∀ sh : Shift, s.chan.shifter = some sh → sh.phase = .gap → sh.secondHalf = true → 1 ≤ sh.bit →
      (∀ (e : SendEntry) (rest : List SendEntry), s.chan.queue = e :: rest →
        exec .gapEnd s = .next { s with chan := { s.chan with queue := rest, shifter := some (began e), bitDivider := 0 } }) ∧
      (s.chan.queue = [] →
        exec .gapEnd s = .next { s with
          chan := { s.chan with shifter := none, bitDivider := 0 }
          flight := { s.flight with flags := s.flight.flags ++ [.serialIdle] } }))

/-- HALF_BIT_END, half bit by half bit (R114 to R116, R119). Through a frame that nothing disturbs: after the lead-in's two halves each byte goes out in
order, in eight bit times of two halves each, in the bit order and with the clock edges of SCFG; the lead-out follows the last byte. An ABORTING frame
completes its lead-in without data, or its byte in progress to the eighth bit, and goes to its lead-out with that byte counted. The gap is two bit
times with SFS inactive, SCK idle and SDO at 0.
That HALF_BIT_END is taken whenever it is given is the model's choice (log 8). -/
def Obligations.FrameGoesOutBitByBit : Prop :=
  ∀ (s : State) (e : SendEntry),
    let bytes := s.chan.frames[e.frame].bytes
    let shift (aborting : Bool) (phase : FramePhase) (bit : Nat) (second : Bool) (sent : Nat) : Shift :=
      { aborting := aborting, entry := e, phase := phase, bit := bit, secondHalf := second, bytesSent := sent }
    let at_ (aborting : Bool) (phase : FramePhase) (bit : Nat) (second : Bool) (sent : Nat) : State :=
      { s with chan := { s.chan with shifter := some (shift aborting phase bit second sent), bitDivider := 0 } }
    (s.chan.shifter = some (shift false .leadIn 0 false 0) → bytes ≠ [] →
      exec .halfBitEnd s = .next (at_ false .leadIn 0 true 0) ∧
      (∀ (j i : Nat) (second : Bool) (v : Byte), i < 8 → bytes[j]? = some v →
        halfBits (2 + 16 * j + 2 * i + (if second then 1 else 0)) s = .next (at_ false .data i second j) ∧
        (at_ false .data i second j).chan.sdo = v.getLsbD (if s.chan.scfg.getLsbD 2 then i else 7 - i) ∧
        (at_ false .data i second j).chan.sck = (s.chan.scfg.getLsbD 0 ^^ (second ^^ s.chan.scfg.getLsbD 1)) ∧
        (at_ false .data i second j).chan.sfs = !s.chan.scfg.getLsbD 3) ∧
      (∀ second : Bool,
        halfBits (2 + 16 * bytes.length + (if second then 1 else 0)) s = .next (at_ false .leadOut 0 second bytes.length) ∧
        (at_ false .leadOut 0 second bytes.length).chan.sdo = false ∧
        (at_ false .leadOut 0 second bytes.length).chan.sck = s.chan.scfg.getLsbD 0)) ∧
    (∀ second : Bool, s.chan.shifter = some (shift true .leadIn 0 second 0) →
      halfBits (if second then 1 else 2) s = .next (at_ true .leadOut 0 false 0) ∧
      halfBits (if second then 2 else 3) s = .next (at_ true .leadOut 0 true 0)) ∧
    (∀ (i j k : Nat) (second : Bool), i < 8 → s.chan.shifter = some (shift true .data i second j) → 0 < k →
      let position := 2 * i + (if second then 1 else 0) + k
      (position < 16 → halfBits k s = .next (at_ true .data (position / 2) (decide (position % 2 = 1)) j)) ∧
      (position = 16 → halfBits k s = .next (at_ true .leadOut 0 false (j + 1))) ∧
      (position = 17 → halfBits k s = .next (at_ true .leadOut 0 true (j + 1)))) ∧
    (∀ (aborting : Bool) (sent k : Nat), s.chan.shifter = some (shift aborting .gap 0 false sent) → 0 < k → k < 4 →
      halfBits k s = .next (at_ aborting .gap (k / 2) (decide (k % 2 = 1)) sent) ∧
      (at_ aborting .gap (k / 2) (decide (k % 2 = 1)) sent).chan.sdo = false ∧
      (at_ aborting .gap (k / 2) (decide (k % 2 = 1)) sent).chan.sck = s.chan.scfg.getLsbD 0 ∧
      (at_ aborting .gap (k / 2) (decide (k % 2 = 1)) sent).chan.sfs = s.chan.scfg.getLsbD 3)

/-- LOAD_FRAME (R109, R110), judged in its order: BAD_ARG for the frame number, BAD_ARG for the length, LOCKED on a frame in use, and otherwise the new
bytes; OK and LOCKED report the channel as it was found. -/
def Obligations.LoadFrameIsJudgedInOrder : Prop :=
  ∀ (s : State) (f : FrameNo), s.accepted 0x20 →
    let b := s.engine.snapshot
    let found : List Byte :=
      [byteOf s.chan.frames[f].bytes.length, byteOf s.chan.frames[f].lock, byteOf s.chan.queue.length,
       (match s.chan.shifter with
        | none => 0
        | some sh => if sh.aborting then 2 else 1)]
    (7 < b[0].toNat → exec (.loadFrame .action) s = .next { s with engine := s.engine.withResult .badArg [0] }) ∧
    (b[0].toNat = f.val → 12 < b[1].toNat → exec (.loadFrame .action) s = .next { s with engine := s.engine.withResult .badArg [1] }) ∧
    (b[0].toNat = f.val → b[1].toNat ≤ 12 → s.chan.frames[f].lock ≠ 0 →
      exec (.loadFrame .action) s = .next { s with engine := s.engine.withResult .locked found }) ∧
    (b[0].toNat = f.val → b[1].toNat ≤ 12 → s.chan.frames[f].lock = 0 →
      exec (.loadFrame .action) s = .next { s with
        chan := { s.chan with
          frames := s.chan.frames.set f.val { bytes := (b.toList.drop 2).take b[1].toNat, lock := 0 } f.isLt }
        engine := s.engine.withResult .ok found })

/-- BDIV_WRITE and SCFG_WRITE (R113, R181): loaded while the shifter is IDLE and the queue empty, SCFG with its four defined bits; ignored otherwise, and
while the part is held in reset (R139). The idle levels of SCK and SFS follow SCFG at once. -/
def Obligations.SerialSetUpIsWrittenWhileIdle : Prop :=
  ∀ (s : State) (v : Byte),
    (s.chan.shifter = none → s.chan.queue = [] → s.sched.hold = none →
      exec (.bdivWrite v) s = .next { s with chan := { s.chan with bdiv := v } } ∧
      exec (.scfgWrite v) s = .next { s with chan := { s.chan with scfg := v &&& 0x0F } } ∧
      ({ s.chan with scfg := v &&& 0x0F } : FrameChannel).sck = v.getLsbD 0 ∧
      ({ s.chan with scfg := v &&& 0x0F } : FrameChannel).sfs = v.getLsbD 3) ∧
    (s.chan.shifter ≠ none ∨ s.chan.queue ≠ [] ∨ s.sched.hold.isSome = true →
      exec (.bdivWrite v) s = .next s ∧ exec (.scfgWrite v) s = .next s)

/-! ### Scheduler control and resets -/

/-- HALT_ASSERTION and HALT_RELEASE (R129 to R132, R138): the entry of HALTED forces every line safe and converts every slot caught in phase TRAIL, in due
queue order and without its trailing edge: a one-shot is freed with ABORTED; a periodic slot is counted from its lead due and queued at the least base
plus k periods ahead of TICK, held with that distance with suspend pending, or finished with its repeats used up (R60, R61). Every other slot stays as
it stood. HALT_ENTERED is handed over first, with the HALT flag request and the halt request, and a draining START is cut off; in HALTED after a
release HALT_ENTERED and the flag alone; a release in HALTED tells HALT_RELEASED; while the part is held in reset an event moves the pin alone
(R139, log 22).
That a repeated level is no event, and that START completes in the entry's step, are the model's readings (log 14, log 10).
Where a lead due lies ahead of TICK the formula of R60 is followed: the model's choice (log 30). -/
def Obligations.HaltEventsAreTaken : Prop :=
  (∀ s : State, s.PlacesAgree → s.sched.hold = none → s.sched.haltSeen = false → s.sched.state ≠ .halted →
    let tick := s.time.tick
    ∃ (t : State) (tell : SlotNo → List Notice), exec .haltAssertion s = .next t ∧
      let told := (s.fire.dueQueue.filter fun n : SlotNo => s.slots[n].isTrail).flatMap tell
      t.sched = { s.sched with state := .halted, haltSeen := true } ∧
      t.pins = { s.pins with haltAsserted := true } ∧
      t.out = { s.out with level := s.out.safe, safeHold := true } ∧
      (∀ n : SlotNo, s.slots[n].isTrail = false → t.slots[n] = s.slots[n]) ∧
      (∀ n : SlotNo, s.slots[n].isTrail = true → s.slots[n].record.period = none → t.slots[n] = Slot.freed s.slots[n].tag) ∧
      (∀ n : SlotNo, t.slots[n].isTrail = false) ∧
      t.fire.overdue = s.fire.overdue ∧ t.fire.unit = s.fire.unit ∧
      (s.engine.state ≠ .draining →
        t.engine = s.engine ∧
        t.flight = { s.flight with
          notices := s.flight.notices ++ [⟨.scheduler,
            { kind := .haltEntered, handle := none, time := s.time.tick, detail := byteOf s.sched.state.code } :: told, 0, false⟩]
          flags := s.flight.flags ++ [.halt]
          frameCtl := s.flight.frameCtl ++ [.halt] }) ∧
      (s.engine.state = .draining → s.sched.state = .recovering →
        t.engine = { s.engine with
          state := .ready
          result := .haltActive
          window := windowOf [2, BitVec.ofNat 8 s.sched.drainCount, BitVec.ofNat 8 (s.sched.drainCount / 256),
            byteOf s.fire.overdue.length] } ∧
        t.flight = { s.flight with
          notices := s.flight.notices ++ [⟨.scheduler, { kind := .haltEntered, handle := none, time := s.time.tick, detail := 3 } :: told, 0, false⟩]
          flags := s.flight.flags ++ [.halt, .cmdDone]
          frameCtl := s.flight.frameCtl ++ [.halt] }) ∧
      (∀ (n : SlotNo) (line : LineNo) (active restore : Bool) (width : Nat), s.slots[n].isTrail = true → s.slots[n].record.period = none →
        s.slots[n].record.action = .pulse line active width restore →
        tell n = [{ kind := .aborted, handle := some ⟨n, s.slots[n].tag⟩, time := tick, detail := byteOf line.val }]) ∧
      (∀ (n : SlotNo) (due leadDue : Tick) (pend : Bool) (period k : Nat), s.slots[n].place = .queued due (.trail leadDue pend) →
        s.slots[n].record.period = some period → 0 < period → period < 16777216 → NextAhead leadDue tick period k →
        let sl := s.slots[n]
        let occurrences := min (sl.occurrences + 1) 65535
        let done := if pend then [] else doneOf n sl tick occurrences
        let next := leadDue + BitVec.ofNat 32 (k * period)
        ((∀ q ∈ sl.repeats, k + 1 ≤ q) →
          t.slots[n] = { sl with
            occurrences := occurrences
            repeats := sl.repeats.map (· - k)
            place := if pend then .held (.queue (next - tick)) else .queued next .lead } ∧
          tell n = missedOf n sl tick (k - 1)) ∧
        (∀ q : Nat, sl.repeats = some q → 1 ≤ q → q ≤ k →
          t.slots[n] = ({ sl with occurrences := occurrences, repeats := some 0 }.ended pend) ∧
          tell n = missedOf n sl tick (q - 1) ++ done)) ∧
      t.PlacesAgree ∧ (s.InOrder → s.ShortOfWrap → t.InOrder) ∧
      t.time = s.time ∧ t.chan = s.chan ∧ t.notes = s.notes ∧ t.lastRead = s.lastRead ∧
      t.cap = { s.cap with parks := t.cap.parks }) ∧
  (∀ s : State, s.sched.hold = none → s.sched.haltSeen = false → s.sched.state = .halted →
    exec .haltAssertion s = .next { s with
      pins := { s.pins with haltAsserted := true }
      sched := { s.sched with haltSeen := true }
      flight := { s.flight with
        notices := s.flight.notices ++ [⟨.scheduler, [{ kind := .haltEntered, handle := none, time := s.time.tick, detail := 2 }], 0, false⟩]
        flags := s.flight.flags ++ [.halt] } }) ∧
  (∀ s : State, s.sched.hold = none → s.sched.haltSeen = true →
    exec .haltAssertion s = .next s ∧
    exec .haltRelease s = .next { s with
      pins := { s.pins with haltAsserted := false }
      sched := { s.sched with haltSeen := false }
      flight := { s.flight with notices := s.flight.notices ++
        (if s.sched.state = .halted then
          [⟨.scheduler, [{ kind := .haltReleased, handle := none, time := s.time.tick, detail := 0 }], 0, false⟩]
         else []) } }) ∧
  (∀ s : State, s.sched.hold.isSome = true →
    exec .haltAssertion s = .next { s with pins := { s.pins with haltAsserted := true } } ∧
    exec .haltRelease s = .next { s with pins := { s.pins with haltAsserted := false } })

/-- POWER_ON_RESET, RST_PIN_RESET and RESET (R139, R140, R161): every block takes its reset values (R17, R40, R46, R82, R107, R122, R146, R176), but for
the pins, the queue of commands and what the source keeps: tags and frame bytes across RST# and RESET. RESET stays BUSY with code 0x3F and OK to post,
and is released at once, into HALTED when HALT# is asserted.
RESET's action step with the pins it reads at its release is the model's reading (log 15, log 26), and so is the blank record of a FREE slot (log 13). -/
def Obligations.ResetsSetEveryBlock : Prop :=
  ∀ s : State,
    let cleared (pins : PinLevels) (tag : SlotNo → Byte) (bytes : FrameNo → List Byte) (hold : Option ResetHold) : State :=
      { time := { tick := 0, divider := 0, psel := 4, armed := false, syncVal := 0, syncSeen := pins.sync, latch := 0 }
        slots := Vector.ofFn fun n : SlotNo =>
          { tag := tag n, place := .free, record := Record.blank, repeats := none, occurrences := 0 }
        fire := { dueQueue := [], overdue := [], unit := .idle, look := false }
        out := { mode := 0, level := 0, safe := 0, latch := 0, marks := Vector.replicate 16 none, safeHold := false, lvlref := false }
        cap :=
          { lines := Vector.ofFn fun c : CapNo =>
              { select := .none, filterLength := 0, logEnable := false, gateOpen := false, oneShot := false,
                accepted := pins.cap.getLsbD c.val, filter := .idle }
            parks := Vector.replicate 8 []
            log := []
            clost := 0
            gapPending := false }
        chan :=
          { frames := Vector.ofFn fun f : FrameNo => { bytes := bytes f, lock := 0 }
            queue := []
            shifter := none
            bitDivider := 0
            bdiv := 0
            scfg := 0
            haltHold := false }
        sched := { state := .stopped, haltSeen := pins.haltAsserted, drainCount := 0, hold := hold }
        engine :=
          { state := .ready, staging := Vector.replicate 16 0, snapshot := Vector.replicate 16 0, current := 0, result := .none,
            window := Vector.replicate 16 0 }
        notes := { queue := [], nlost := 0, gapPending := false, sticky := 0, ien := 0, nthr := 1, cthr := 1, wake := false }
        pins := pins
        lastRead := none
        flight :=
          { edges := [], restores := [], sends := [], gates := [], wakes := 0, notices := [], flags := [], ticks := [], jumps := [],
            markClears := 0, frameCtl := [] }
        pending := s.pending }
    let kept (pins : PinLevels) (hold : Option ResetHold) : State :=
      cleared pins (fun n => s.slots[n].tag) (fun f => s.chan.frames[f].bytes) hold
    exec .powerOnReset s = .next (cleared s.pins (fun _ => 0) (fun _ => []) (some .powerOn)) ∧
    exec .rstPinReset s = .next (kept s.pins (some .rstPin)) ∧
    (∀ pins : PinLevels, s.accepted 0x3F →
      let engine : Engine :=
        { state := .acted .ok (Vector.replicate 16 0), staging := Vector.replicate 16 0, snapshot := Vector.replicate 16 0, current := 0x3F,
          result := .none, window := Vector.replicate 16 0 }
      (pins.haltAsserted = false → exec (.reset (.action pins)) s = .next { kept pins none with engine := engine }) ∧
      (pins.haltAsserted = true → exec (.reset (.action pins)) s = .next { kept pins none with
        engine := engine
        sched := { state := .halted, haltSeen := true, drainCount := 0, hold := none }
        out := { (kept pins none).out with safeHold := true }
        flight := { (kept pins none).flight with
          notices := [⟨.scheduler, [{ kind := .haltEntered, handle := none, time := 0, detail := 0 }], 0, true⟩]
          flags := [.halt]
          frameCtl := [.halt] } })) ∧
    cleared quietPins (fun _ => 0) (fun _ => []) none = { State.reset with pending := s.pending }

/-- RESET_RELEASE (R140): the hold ends, the detectors and the accepted levels take the levels of their pins, and the part stays STOPPED, or enters HALTED
with HALT_ENTERED when HALT# is asserted. That it does nothing while no hold is in force (log 1), and that the pins come as its operand (log 15), are
the model's choices. -/
def Obligations.ResetReleaseReadsThePins : Prop :=
  ∀ (s : State) (pins : PinLevels),
    (s.sched.hold = none → exec (.resetRelease pins) s = .next s) ∧
    (s.sched.hold.isSome = true → ∃ lines : Vector CapLine 8,
      (∀ c : CapNo, lines[c] = { s.cap.lines[c] with accepted := pins.cap.getLsbD c.val }) ∧
      (pins.haltAsserted = false →
        exec (.resetRelease pins) s = .next { s with
          pins := pins
          time := { s.time with syncSeen := pins.sync }
          cap := { s.cap with lines := lines }
          sched := { s.sched with haltSeen := false, hold := none } }) ∧
      (pins.haltAsserted = true → s.sched.state = .stopped → s.fire.dueQueue = [] →
        ∃ look : Bool, exec (.resetRelease pins) s = .next { s with
          pins := pins
          time := { s.time with syncSeen := pins.sync }
          cap := { s.cap with lines := lines }
          sched := { s.sched with state := .halted, haltSeen := true, hold := none }
          out := { s.out with level := s.out.safe, safeHold := true }
          fire := { s.fire with look := look }
          flight := { s.flight with
            notices := s.flight.notices ++ [⟨.scheduler, [{ kind := .haltEntered, handle := none, time := s.time.tick, detail := 0 }], 0, true⟩]
            flags := s.flight.flags ++ [.halt]
            frameCtl := s.flight.frameCtl ++ [.halt] } }))

/-- START and STOP by the state they find (R124 to R126, R135, R81): START enters RUNNING from STOPPED; from HALTED it is turned away with HALT_ACTIVE while
HALT# is asserted, and else enters RECOVERING, ends the safe hold with every DIRECT line driven to its latch, and stays in progress; STOP enters STOPPED
from RUNNING and reports the queue length and the pulses between their edges; both answer STATE otherwise.
That START in STOPPED does not test HALT#, and that it answers STATE in RECOVERING, are the model's readings (log 21). -/
def Obligations.StartAndStopByState : Prop :=
  ∀ s : State,
    (s.accepted 0x38 →
      (s.sched.state = .stopped →
        ∃ look : Bool, exec (.start .action) s = .next { s with
          sched := { s.sched with state := .running }, fire := { s.fire with look := look }, engine := s.engine.withResult .ok [] } ∧
          (s.fire.unit = .idle → (look = true ↔ ∃ h : SlotNo, s.fire.dueQueue.head? = some h ∧ s.slotDistance h ≤ 0))) ∧
      (s.sched.state = .halted → s.sched.haltSeen = true →
        exec (.start .action) s = .next { s with
          engine := s.engine.withResult .haltActive [2, 0, 0, byteOf s.fire.overdue.length] }) ∧
      (s.sched.state = .halted → s.sched.haltSeen = false →
        ∃ (level : Lines) (look : Bool), exec (.start .action) s = .next { s with
          sched := { s.sched with state := .recovering, drainCount := 0 }
          out := { s.out with level := level, safeHold := false }
          fire := { s.fire with look := look }
          flight := { s.flight with frameCtl := s.flight.frameCtl ++ [.finish] }
          engine := { s.engine with state := .draining } } ∧
          (∀ i : LineNo, level.getLsbD i.val = if s.out.mode.getLsbD i.val then s.out.level.getLsbD i.val else s.out.latch.getLsbD i.val) ∧
          (s.fire.unit = .idle → look = true)) ∧
      (s.sched.state = .running ∨ s.sched.state = .recovering →
        exec (.start .action) s = .next { s with engine := s.engine.withResult .state [] })) ∧
    (s.accepted 0x39 →
      (s.sched.state = .running →
        exec (.stop .action) s = .next { s with
          sched := { s.sched with state := .stopped }
          fire := { s.fire with look := false }
          engine := s.engine.withResult .ok
            [byteOf s.fire.dueQueue.length, byteOf (s.fire.dueQueue.filter fun n : SlotNo => s.slots[n].isTrail).length] }) ∧
      (s.sched.state ≠ .running → exec (.stop .action) s = .next { s with engine := s.engine.withResult .state [] }))

/-- CLEAR (R128): every slot is freed with its tag from wherever it stands, nothing is told and no line moves, and the window counts what was freed, place
by place. -/
def Obligations.ClearFreesEverySlot : Prop :=
  ∀ s : State, s.PlacesAgree → s.accepted 0x3A →
    ∃ (slots : Vector Slot 64) (parks : Vector (List SlotNo) 8) (look : Bool),
      exec (.clear .action) s = .next { s with
        slots := slots
        fire := { s.fire with dueQueue := [], overdue := [], look := look }
        cap := { s.cap with parks := parks }
        engine := s.engine.withResult .ok
          [byteOf (s.countSlots Slot.inUse), byteOf s.fire.dueQueue.length, byteOf s.fire.overdue.length,
           byteOf (allCaps.map fun c => s.cap.parks[c].length).sum, byteOf (s.countSlots Slot.isHeld), byteOf (s.countSlots Slot.isTrail)] } ∧
      (∀ n : SlotNo, slots[n].place = .free ∧ slots[n].tag = s.slots[n].tag) ∧
      (∀ c : CapNo, parks[c] = [])

/-! ### The command engine -/

/-- A CMD write of any of the sixteen commands' codes, or of a code that names no command (R141, R143): accepted while READY, with the staging bytes copied
and the result code NONE; while the part is held in reset it is ignored (R139). -/
def Obligations.CmdWriteIsAcceptedWhenReady : Prop :=
  ∀ s : State,
    (s.engine.state = .ready → s.sched.hold = none →
      (∀ p ∈ commandWrites, exec p.2 s = .next { s with
        engine := { s.engine with snapshot := s.engine.staging, current := p.1, result := .none, state := .accepted } }) ∧
      (∀ code : Byte, WellFormed (.badCmd code) = true → exec (.badCmd code) s = .next { s with
        engine := { s.engine with snapshot := s.engine.staging, current := code, result := .none, state := .acted .badCmd zeros16 } })) ∧
    (s.sched.hold.isSome = true →
      (∀ p ∈ commandWrites, exec p.2 s = .next s) ∧ (∀ code : Byte, exec (.badCmd code) s = .next s ∧ exec (.cmdWriteRefused code) s = .next s))

/-- A CMD write that finds the engine BUSY changes nothing but the request for CMD_REFUSED, whatever code it carries (R142).
That a bus write of REGISTER_WRITE's row to CMD is such a write too is the model's reading (log 16). -/
def Obligations.BusyCmdWriteIsRefused : Prop :=
  ∀ (s : State) (code : Byte), s.engine.state ≠ .ready → s.sched.hold = none →
    exec (.cmdWriteRefused code) s = .next { s with flight := { s.flight with flags := s.flight.flags ++ [.cmdRefused] } } ∧
    exec (.registerWrite 0x03 code) s = .next { s with flight := { s.flight with flags := s.flight.flags ++ [.cmdRefused] } } ∧
    (∀ p ∈ commandWrites, exec p.2 s = .next { s with flight := { s.flight with flags := s.flight.flags ++ [.cmdRefused] } })

/-- COMMAND_COMPLETION (R144): the result code and the whole result window are posted together, BUSY clears, and CMD_DONE is asked for; the host reads
exactly the code and the bytes that the action step fixed. The ten result codes are those of R185. -/
def Obligations.CompletionPostsTheResult : Prop :=
  ([ResultCode.none, .ok, .badCmd, .badArg, .noSlot, .gone, .state, .locked, .haltActive, .range].map ResultCode.code =
    [0, 1, 2, 3, 4, 5, 6, 7, 8, 9]) ∧
  ∀ (s : State) (code : ResultCode) (w : Bytes16), s.engine.state = .acted code w →
    ∃ t : State, exec .commandCompletion s = .next t ∧
      t = { s with
        engine := { s.engine with state := .ready, result := code, window := w }
        flight := { s.flight with flags := s.flight.flags ++ [.cmdDone] } } ∧
      t.busRead 0x04 = byteOf code.code ∧ (t.busRead 0x02).getLsbD 2 = false ∧ t.busRead 0x03 = s.engine.current ∧
      ∀ i : Fin 16, t.busRead (BitVec.ofNat 7 (0x30 + i.val)) = w[i]

/-- POST (R22, R148): a record that fails a check is refused with its number, a full store with NO_SLOT; otherwise the lowest FREE slot takes its next tag
and the record, and stands in the due queue with due D or TICK plus the offset, or at the tail of its park list; the window returns handle and due. -/
def Obligations.PostAllocatesTheLowestFreeSlot : Prop :=
  ∀ s : State, s.PlacesAgree → s.accepted 0x10 →
    let b := s.engine.snapshot
    let r := Layout.record b
    (∀ i : Nat, recordFault b s.time.tick = some i →
      exec (.post .action) s = .next { s with engine := s.engine.withResult .badArg [byteOf i] }) ∧
    (recordFault b s.time.tick = none → (∀ n : SlotNo, s.slots[n].inUse = true) →
      exec (.post .action) s = .next { s with engine := s.engine.withResult .noSlot [] }) ∧
    (∀ n : SlotNo, recordFault b s.time.tick = none → s.slots[n].inUse = false → (∀ m : SlotNo, m < n → s.slots[m].inUse = true) →
      let tag : Byte := if s.slots[n].tag = 255 then 1 else s.slots[n].tag + 1
      let slot (place : Place) : Slot := { tag := tag, place := place, record := r, repeats := r.repeatsPosted, occurrences := 0 }
      (∀ due : Tick, (r.start = .absolute due ∨ ∃ offset : Tick, r.start = .relative offset ∧ due = s.time.tick + offset) →
        let slots := s.slots.set n.val (slot (.queued due .lead)) n.isLt
        ∃ look : Bool, exec (.post .action) s = .next { s with
          slots := slots
          fire := { s.fire with
            dueQueue := insertBehind (fun m => decide ({ s with slots := slots }.slotDistance m ≤ distance due s.time.tick)) n s.fire.dueQueue
            look := look }
          engine := s.engine.withResult .ok ([byteOf n.val, tag] ++ bytes32 due) }) ∧
      (∀ (c : CapNo) (offset : Tick) (rearm : Bool), r.start = .parked c offset rearm →
        exec (.post .action) s = .next { s with
          slots := s.slots.set n.val (slot .parked) n.isLt
          cap := { s.cap with parks := s.cap.parks.set c.val (s.cap.parks[c] ++ [n]) c.isLt }
          engine := s.engine.withResult .ok [byteOf n.val, tag] }))

/-- CANCEL and CANCEL_GROUP (R75, R150, R151): a gone handle gives GONE and an override above 1 BAD_ARG; otherwise exactly the named or selected slots are
freed with their tags, each place keeps the order of the rest, a TRAIL pulse with restore in force hands one restore request, and the window reports what
was found; nothing is told. -/
def Obligations.CancelFreesAndRestores : Prop :=
  ∀ s : State, s.PlacesAgree →
    let b := s.engine.snapshot
    let requests (force : Bool) (n : SlotNo) : List EdgeRequest :=
      match s.slots[n].record.action with
      | .pulse line active _ restore =>
        if s.slots[n].isTrail && (restore || force) then
          [{ line := line, drive := .level (!active), handle := ⟨n, s.slots[n].tag⟩, tick := s.time.tick }]
        else []
      | _ => []
    (s.accepted 0x11 →
      (s.liveSlot b[0] b[1] = none → exec (.cancel .action) s = .next { s with engine := s.engine.withResult .gone [] }) ∧
      (∀ n : SlotNo, s.liveSlot b[0] b[1] = some n →
        (1 < b[2].toNat → exec (.cancel .action) s = .next { s with engine := s.engine.withResult .badArg [2] }) ∧
        (b[2].toNat ≤ 1 → ∃ (parks : Vector (List SlotNo) 8) (look : Bool),
          exec (.cancel .action) s = .next { s with
            slots := s.slots.set n.val (Slot.freed s.slots[n].tag) n.isLt
            fire := { s.fire with dueQueue := s.fire.dueQueue.erase n, overdue := s.fire.overdue.erase n, look := look }
            cap := { s.cap with parks := parks }
            flight := { s.flight with restores := s.flight.restores ++ requests (b[2] == 1) n }
            engine := s.engine.withResult .ok
              [byteOf s.slots[n].stateCode, flagByte s.slots[n].isTrail, byteOf (requests (b[2] == 1) n).length] } ∧
          ∀ c : CapNo, parks[c] = s.cap.parks[c].erase n))) ∧
    (s.accepted 0x18 →
      let ns := s.selected b[0]
      let count (p : Slot → Bool) : Byte := byteOf (ns.filter fun n => p s.slots[n]).length
      let restores := ns.flatMap (requests (b[1] == 1))
      (1 < b[1].toNat → exec (.cancelGroup .action) s = .next { s with engine := s.engine.withResult .badArg [1] }) ∧
      (b[1].toNat ≤ 1 → ∃ (slots : Vector Slot 64) (parks : Vector (List SlotNo) 8) (look : Bool),
        exec (.cancelGroup .action) s = .next { s with
          slots := slots
          fire := { s.fire with
            dueQueue := s.fire.dueQueue.filter fun n => !ns.contains n
            overdue := s.fire.overdue.filter fun n => !ns.contains n
            look := look }
          cap := { s.cap with parks := parks }
          flight := { s.flight with restores := s.flight.restores ++ restores }
          engine := s.engine.withResult .ok
            [byteOf ns.length, count Slot.isQueued, count Slot.isOverdue, count Slot.isParked, count Slot.isHeld, count Slot.isTrail,
             byteOf restores.length] } ∧
        (∀ n : SlotNo, slots[n] = if n ∈ ns then Slot.freed s.slots[n].tag else s.slots[n]) ∧
        ∀ c : CapNo, parks[c] = s.cap.parks[c].filter fun n => !ns.contains n))

/-- AMEND (R153, R154): the tests in their order, each with its result and no change, the record checks with the number of the first that fails; and where
they pass, the new schedule and the new due, remaining or park offset by slot state, a QUEUED slot going behind every entry with its due.
That only the values an AMEND carries are checked is the model's reading of R33 (log 11). -/
def Obligations.AmendChangesWhatItNames : Prop :=
  ∀ s : State, s.accepted 0x12 →
    let b := s.engine.snapshot
    let change := b[2].toNat
    let value : Tick := b[6] ++ b[5] ++ b[4] ++ b[3]
    let period := (b[9] ++ b[8] ++ b[7]).toNat
    let repeats := b[10].toNat
    let answer (code : ResultCode) (w : List Byte) : Prop :=
      exec (.amend .action) s = .next { s with engine := s.engine.withResult code w }
    (s.liveSlot b[0] b[1] = none → answer .gone []) ∧
    (∀ n : SlotNo, s.liveSlot b[0] b[1] = some n →
      let sl := s.slots[n]
      let fixed : Bool := sl.isTrail || sl.isOverdue || ((sl.isParked || sl.place == .held .park) && (change == 1 || change == 2))
      let fails : Nat → Prop := fun i =>
        (i = 7 ∧ b[14] = 1 ∧ period = 0 ∧ repeats ≠ 0) ∨
        (i = 8 ∧ b[14] = 1 ∧ sl.record.action.isPulse = true ∧ period ≠ 0 ∧ period ≤ sl.record.action.widthOf) ∨
        (i = 9 ∧ change = 1 ∧ (2 ^ 30 < distance value s.time.tick ∨ distance value s.time.tick < -2 ^ 30)) ∨
        (i = 10 ∧ change = 2 ∧ 2 ^ 30 < value.toNat) ∨
        (i = 11 ∧ change = 3 ∧ 2 ^ 24 ≤ value.toNat)
      let record : Record :=
        { sl.record with
          start := if change = 3 then sl.record.start.withOffset value else sl.record.start
          period := if b[14] = 1 then (if period = 0 then none else some period) else sl.record.period
          repeatsPosted := if b[14] = 1 then (if period = 0 ∨ repeats = 0 then none else some repeats) else sl.record.repeatsPosted }
      let amended : Slot := { sl with record := record, repeats := if b[14] = 1 then record.repeatsPosted else sl.repeats }
      (3 < change ∨ 1 < b[14].toNat → answer .badArg [14]) ∧
      (change ≤ 3 → b[14].toNat ≤ 1 →
        (fixed = true → answer .state []) ∧
        (fixed = false → change = 3 → sl.record.start.parkLine = none → answer .badArg [15]) ∧
        (fixed = false → (change = 3 → sl.record.start.parkLine ≠ none) →
          (∀ i : Nat, fails i → (∀ j : Nat, j < i → ¬ fails j) → answer .badArg [BitVec.ofNat 8 i]) ∧
          ((∀ i : Nat, ¬ fails i) →
            (∀ due : Tick, sl.place = .queued due .lead →
              let next := if change = 1 then value else if change = 2 then s.time.tick + value else due
              let slots := s.slots.set n.val { amended with place := .queued next .lead } n.isLt
              ∃ look : Bool, exec (.amend .action) s = .next { s with
                slots := slots
                fire := { s.fire with
                  dueQueue := insertBehind (fun m => decide ({ s with slots := slots }.slotDistance m ≤ distance next s.time.tick)) n
                    (s.fire.dueQueue.erase n)
                  look := look }
                engine := s.engine.withResult .ok (1 :: bytes32 next) }) ∧
            (∀ remaining : BitVec 32, sl.place = .held (.queue remaining) →
              let left := if change = 1 then value - s.time.tick else if change = 2 then value else remaining
              exec (.amend .action) s = .next { s with
                slots := s.slots.set n.val { amended with place := .held (.queue left) } n.isLt
                engine := s.engine.withResult .ok (4 :: bytes32 left) }) ∧
            (sl.place = .parked ∨ sl.place = .held .park ∨ sl.place = .held .atEnd →
              exec (.amend .action) s = .next { s with
                slots := s.slots.set n.val amended n.isLt
                engine := s.engine.withResult .ok [byteOf sl.stateCode] })))))

/-- SUSPEND_GROUP and RESUME_GROUP (R156, R157): what becomes of each selected slot by its state, and of no other; the queue and the lists keep the order of
the rest; the resumed slots are inserted into the due queue in ascending slot number, each behind its equals (R42), or appended to their park lists; only
RESUME_GROUP tells anything, the DONE of each deferred finish. -/
def Obligations.GroupsAreSuspendedAndResumed : Prop :=
  ∀ s : State, s.PlacesAgree →
    let ns := s.selected s.engine.snapshot[0]
    let count (p : Slot → Bool) : Byte := byteOf (ns.filter fun n => p s.slots[n]).length
    (s.accepted 0x19 → ∃ (slots : Vector Slot 64) (parks : Vector (List SlotNo) 8) (look : Bool),
      exec (.suspendGroup .action) s = .next { s with
        slots := slots
        fire := { s.fire with dueQueue := s.fire.dueQueue.filter fun n => !(ns.contains n && !s.slots[n].isTrail), look := look }
        cap := { s.cap with parks := parks }
        engine := s.engine.withResult .ok
          [count fun sl => (sl.isQueued && !sl.isTrail) || sl.isParked, count Slot.isTrail, count Slot.isOverdue] } ∧
      (∀ n : SlotNo, slots[n] =
        if n ∈ ns then
          match s.slots[n].place with
          | .queued due .lead => { s.slots[n] with place := .held (.queue (due - s.time.tick)) }
          | .queued due (.trail leadDue _) => { s.slots[n] with place := .queued due (.trail leadDue true) }
          | .parked => { s.slots[n] with place := .held .park }
          | _ => s.slots[n]
        else s.slots[n]) ∧
      ∀ c : CapNo, parks[c] = s.cap.parks[c].filter fun n => !ns.contains n) ∧
    (s.accepted 0x1A → ∃ (slots : Vector Slot 64) (queue : List SlotNo) (parks : Vector (List SlotNo) 8) (look : Bool),
      let parking (n : SlotNo) : Bool :=
        s.slots[n].place == .held .park || (s.slots[n].place == .held .atEnd && s.slots[n].record.start.rearm)
      exec (.resumeGroup .action) s = .next { s with
        slots := slots
        fire := { s.fire with dueQueue := queue, look := look }
        cap := { s.cap with parks := parks }
        flight := { s.flight with notices := s.flight.notices ++ batchOf .engine (ns.flatMap fun n =>
          if s.slots[n].place = .held .atEnd then doneOf n s.slots[n] s.time.tick s.slots[n].occurrences else []) }
        engine := s.engine.withResult .ok
          [count Slot.isHeld, count fun sl => sl.isHeld && sl.resumeCode == 0, count fun sl => sl.isHeld && sl.resumeCode == 1,
           count fun sl => sl.isHeld && sl.resumeCode == 2, count Slot.suspendPending] } ∧
      (∀ n : SlotNo, slots[n] =
        if n ∈ ns then
          match s.slots[n].place with
          | .held (.queue remaining) => { s.slots[n] with place := .queued (s.time.tick + remaining) .lead }
          | .held .park => { s.slots[n] with place := .parked }
          | .held .atEnd =>
            if s.slots[n].record.start.rearm then
              { s.slots[n] with place := .parked, repeats := s.slots[n].record.repeatsPosted }
            else Slot.freed s.slots[n].tag
          | .queued due (.trail leadDue _) => { s.slots[n] with place := .queued due (.trail leadDue false) }
          | _ => s.slots[n]
        else s.slots[n]) ∧
      queue = ({ s with slots := slots } : State).insertAll (ns.filter fun n =>
        match s.slots[n].place with
        | .held (.queue _) => true
        | _ => false) s.fire.dueQueue ∧
      ∀ c : CapNo, parks[c] = s.cap.parks[c] ++ ns.filter fun n => parking n && s.slots[n].record.start.parkLine == some c)

/-- READ_SLOT and QUERY (R21, R147, R159, R160, R183): they change nothing but the engine's result; a gone handle gives GONE and a selector above 1 BAD_ARG;
part 0 is the record in the POST layout and part 1 the run-time fields, byte by byte, with the codes of R147 and every absent field 0; the first twelve
figures of QUERY add up to 64. A handle is live while its slot, 0 to 63, is not FREE and carries its tag, which is not 0; bit g of a mask selects group g;
and the slots that a mask selects come in ascending order. -/
def Obligations.ReadsReportTheSlotsAsTheyStand : Prop :=
  ∀ s : State,
    let b := s.engine.snapshot
    (∀ (slot tag : Byte) (n : SlotNo),
      s.liveSlot slot tag = some n ↔ slot.toNat = n.val ∧ tag ≠ 0 ∧ s.slots[n].place ≠ .free ∧ s.slots[n].tag = tag) ∧
    (∀ mask : Byte, (∀ n : SlotNo, n ∈ s.selected mask ↔ s.slots[n].place ≠ .free ∧ mask.getLsbD s.slots[n].record.group.val = true) ∧
      (s.selected mask).Pairwise fun m n => m < n) ∧
    (s.accepted 0x13 →
      (s.liveSlot b[0] b[1] = none → exec (.readSlot .action) s = .next { s with engine := s.engine.withResult .gone [] }) ∧
      (∀ n : SlotNo, s.liveSlot b[0] b[1] = some n →
        let sl := s.slots[n]
        let r := sl.record
        let stateCode : Byte := match sl.place with
          | .free => 0
          | .queued _ _ => 1
          | .overdue _ => 2
          | .parked => 3
          | .held _ => 4
        let resumePoint : Byte := match sl.place with
          | .held .park => 1
          | .held .atEnd => 2
          | _ => 0
        let field : BitVec 32 := match sl.place with
          | .queued due _ => due
          | .overdue due => due
          | .held (.queue remaining) => remaining
          | _ => 0
        let (phase, pending, lead) : Byte × Byte × Tick := match sl.place with
          | .queued _ (.trail leadDue suspend) => (1, (if suspend then 1 else 0), leadDue)
          | _ => (0, 0, 0)
        let (kind, target, option, restore, width) : Nat × Nat × Bool × Bool × Nat := match r.action with
          | .set line level => (0, line.val, level, false, 0)
          | .toggle line => (1, line.val, false, false, 0)
          | .pulse line active width restore => (2, line.val, active, restore, width)
          | .send frame => (3, frame.val, false, false, 0)
          | .signal wake => (4, 0, wake, false, 0)
          | .gate line opens => (5, line.val, opens, false, 0)
        let (mode, value, rearm, parkLine) : Nat × Tick × Bool × Nat := match r.start with
          | .absolute due => (0, due, false, 0)
          | .relative offset => (1, offset, false, 0)
          | .parked line offset rearm => (2, offset, rearm, line.val)
        let notify : Nat := match r.notify with
          | .never => 0
          | .atEnd => 1
          | .every => 2
        let period := r.period.getD 0
        let posted : List Byte :=
          [BitVec.ofNat 8 (kind + 8 * mode + (if r.late = .skip then 32 else 0) + 64 * notify),
           BitVec.ofNat 8 (target + (if option then 16 else 0) + (if restore then 32 else 0) + (if rearm then 64 else 0)),
           BitVec.ofNat 8 r.group.val,
           value.extractLsb' 0 8, value.extractLsb' 8 8, value.extractLsb' 16 8, value.extractLsb' 24 8,
           BitVec.ofNat 8 period, BitVec.ofNat 8 (period / 2 ^ 8), BitVec.ofNat 8 (period / 2 ^ 16),
           BitVec.ofNat 8 (r.repeatsPosted.getD 0), BitVec.ofNat 8 width, BitVec.ofNat 8 (width / 2 ^ 8), BitVec.ofNat 8 parkLine,
           stateCode, 0]
        (1 < b[2].toNat → exec (.readSlot .action) s = .next { s with engine := s.engine.withResult .badArg [2] }) ∧
        sl.stateCode = stateCode.toNat ∧ sl.resumeCode = resumePoint.toNat ∧
        (b[2] = 0 →
          exec (.readSlot .action) s = .next { s with engine := s.engine.withResult .ok posted } ∧
          (r.Fits → Layout.record (windowOf posted) = r)) ∧
        let runtime : List Byte :=
          [stateCode, phase, pending, resumePoint,
           field.extractLsb' 0 8, field.extractLsb' 8 8, field.extractLsb' 16 8, field.extractLsb' 24 8,
           lead.extractLsb' 0 8, lead.extractLsb' 8 8, lead.extractLsb' 16 8, lead.extractLsb' 24 8,
           byteOf (sl.repeats.getD 0), BitVec.ofNat 8 sl.occurrences, BitVec.ofNat 8 (sl.occurrences / 256)]
        (b[2] = 1 → exec (.readSlot .action) s = .next { s with engine := s.engine.withResult .ok runtime }))) ∧
    (s.accepted 0x1F →
      let free := s.countSlots fun sl => !sl.inUse
      let held := s.countSlots Slot.isHeld
      let report : List Byte :=
        [byteOf free, byteOf s.fire.dueQueue.length, byteOf s.fire.overdue.length, byteOf held] ++
          (allCaps.map fun c => byteOf s.cap.parks[c].length) ++ [byteOf s.chan.queue.length, byteOf s.sched.state.code]
      exec (.query .action) s = .next { s with engine := s.engine.withResult .ok report } ∧
      (s.PlacesAgree →
        free + s.fire.dueQueue.length + s.fire.overdue.length + held + (allCaps.map fun c => s.cap.parks[c].length).sum = 64))

/-- REGISTER_WRITE (R145, R177 to R180, R186): a staging byte is stored in every engine state and reads back; a read-only or empty location ignores the write; a
location with a row of its own is taken under that row's rule, CMD among them (R141, R143); writes are ignored while the part is held in reset (R139). The strobes make an access a
write, a read, or with CS# released, with neither or with all asserted none; D0 to D7 are driven in a read alone. What ID, REV, the line registers, WAKE,
BDIV, SCFG and STAT read.
That a location with a row is taken under it (log 16), that the row carries every bus access, and what D0 to D7 do in reset (log 27), are the model's
readings. -/
def Obligations.RegisterWritesReachTheirLocation : Prop :=
  ∀ (s : State) (v : Byte),
    (∀ i : Fin 16, s.sched.hold = none →
      ∃ t : State, exec (.registerWrite (BitVec.ofNat 7 (0x20 + i.val)) v) s = .next t ∧
        t = { s with engine := { s.engine with staging := s.engine.staging.set i.val v i.isLt } } ∧
        t.busRead (BitVec.ofNat 7 (0x20 + i.val)) = v) ∧
    (∀ a : BitVec 7, a ∈ ([0x00, 0x01, 0x04, 0x08, 0x09, 0x0A, 0x0B, 0x13, 0x14, 0x17, 0x1E, 0x1F] : List (BitVec 7)) ∨ 0x30 ≤ a.toNat →
      exec (.registerWrite a v) s = .next s) ∧
    (∀ a : BitVec 7, a = 0x17 ∨ 0x50 ≤ a.toNat → s.busRead a = 0) ∧
    (∀ p ∈ ([(0x02, .lvlrefClear v), (0x05, .iflgClear v), (0x06, .ienWrite v), (0x07, .wakeClear v), (0x0C, .tcfgWrite v),
        (0x0D, .bdivWrite v), (0x0E, .scfgWrite v), (0x0F, .nthrWrite v), (0x10, .cthrWrite v), (0x11, .nlostClear v), (0x12, .clostClear v),
        (0x15, .npop), (0x16, .cpop), (0x18, .lmodWrite .low v), (0x19, .lmodWrite .high v), (0x1A, .safeWrite .low v),
        (0x1B, .safeWrite .high v), (0x1C, .dlvlWrite .low v), (0x1D, .dlvlWrite .high v)] : List (BitVec 7 × Instr)),
      exec (.registerWrite p.1 v) s = exec p.2 s) ∧
    (∀ p ∈ commandWrites, exec (.registerWrite 0x03 p.1) s = exec p.2 s) ∧
    (WellFormed (.badCmd v) = true → exec (.registerWrite 0x03 v) s = exec (.badCmd v) s) ∧
    (s.sched.hold = none → s.engine.state = .ready →
      exec (.registerWrite 0x03 v) s = .next { s with engine := { s.engine with
        snapshot := s.engine.staging, current := v, result := .none
        state := if v ∈ commandWrites.map Prod.fst then .accepted else .acted .badCmd zeros16 } }) ∧
    (s.sched.hold.isSome = true → ∀ a : BitVec 7, exec (.registerWrite a v) s = .next s) ∧
    (∀ (a : BitVec 7) (p : Strobes),
      (p.cs = false ∨ p.rd = p.wr → exec (.registerWrite a v p) s = .next s ∧ s.dataPins p a = none) ∧
      (p.cs = true → p.rd = false → p.wr = true → exec (.registerWrite a v p) s = exec (.registerWrite a v) s ∧ s.dataPins p a = none) ∧
      (p.cs = true → p.rd = true → p.wr = false →
        (a = 0x08 → exec (.registerWrite a v p) s = exec .tck0Read s) ∧
        (a ≠ 0x08 → exec (.registerWrite a v p) s = .next { s with lastRead := some (s.busRead a) }) ∧
        (s.sched.hold = none → s.dataPins p a = some (s.busRead a)) ∧
        (s.sched.hold.isSome = true → s.dataPins p a = none ∨ s.dataPins p a = some (s.busRead a)))) ∧
    (s.busRead 0x00 = 0x5C ∧ s.busRead 0x01 = 0x10 ∧ s.busRead 0x0D = s.chan.bdiv ∧ s.busRead 0x0E = s.chan.scfg ∧
      s.busRead 0x07 = (if s.notes.wake then 1 else 0)) ∧
    (∀ i : Fin 8,
      (s.busRead 0x18).getLsbD i.val = s.out.mode.getLsbD i.val ∧ (s.busRead 0x19).getLsbD i.val = s.out.mode.getLsbD (8 + i.val) ∧
      (s.busRead 0x1A).getLsbD i.val = s.out.safe.getLsbD i.val ∧ (s.busRead 0x1B).getLsbD i.val = s.out.safe.getLsbD (8 + i.val) ∧
      (s.busRead 0x1C).getLsbD i.val = s.out.latch.getLsbD i.val ∧ (s.busRead 0x1D).getLsbD i.val = s.out.latch.getLsbD (8 + i.val) ∧
      (s.busRead 0x1E).getLsbD i.val = s.out.level.getLsbD i.val ∧ (s.busRead 0x1F).getLsbD i.val = s.out.level.getLsbD (8 + i.val)) ∧
    (let stat := s.busRead 0x02
     stat.toNat % 4 = (match s.sched.state with
       | .stopped => 0
       | .running => 1
       | .halted => 2
       | .recovering => 3) ∧
     (stat.getLsbD 2 = true ↔ s.engine.state ≠ .ready) ∧
     (s.sched.hold = none → stat.getLsbD 3 = s.sched.haltSeen) ∧ (s.sched.hold.isSome = true → stat.getLsbD 3 = s.pins.haltAsserted) ∧
     stat.getLsbD 4 = s.time.armed ∧ stat.getLsbD 5 = s.out.lvlref ∧ stat.getLsbD 6 = false ∧ stat.getLsbD 7 = false)

/-! ### Notices, flags and thresholds -/

/-- NOTICE_HANDOFF (R165, R166): the oldest hand-off of a source is stored whole at the tail as far as the queue of 16 has room; each notice left over counts in
NLOST up to 255, sets NOTICE_LOST and leaves a gap pending, which the next notice stored carries. It waits for an earlier hand-off only where the two keep
the order of their steps: of the firing unit and of a block with events of its own (R68), or with SEND_ABORTED, of an entry of HALTED whose halt request
the frame channel had taken (R130), or where the earlier is HALT_ENTERED of a release into HALTED, which is the first notice (R140, R176). Any other
two are stored in either order (R165).
Which hand-offs wait for which is the model's reading of R68, R130, R140 and R165 (log 5). -/
def Obligations.HandOffIsStoredWhole : Prop :=
  ∀ (s : State) (source : NoticeSource) (before after : List NoticeBatch) (b : NoticeBatch),
    s.flight.notices = before ++ b :: after → (∀ x ∈ before, x.source ≠ source) → b.source = source →
    let own (x : NoticeSource) : Prop := x = .scheduler ∨ x = .timeBase ∨ x = .engine
    let waits : Prop :=
      (∃ x ∈ before, x.first = true) ∨
      (source = .firing ∧ ∃ x ∈ before, own x.source) ∨ (own source ∧ ∃ x ∈ before, x.source = .firing) ∨
      (source = .frame ∧ (∃ m ∈ b.notices, m.kind = .sendAborted) ∧
        b.unmet < (before.filter fun x => x.notices.any fun m => decide (m.kind = .haltEntered ∧ m.detail ≠ 2)).length)
    let stored := b.notices.take (16 - s.notes.queue.length)
    let lost := b.notices.length - stored.length
    (¬ waits → exec (.noticeHandoff source) s = .next { s with
      flight := { s.flight with notices := before ++ after }
      notes := { s.notes with
        queue := s.notes.queue ++ stored.mapIdx fun i m => { notice := m, gap := decide (i = 0) && s.notes.gapPending }
        nlost := if lost = 0 then s.notes.nlost else min (s.notes.nlost + lost) 255
        sticky := if lost = 0 then s.notes.sticky else s.notes.sticky ||| 0x10
        gapPending := if lost ≠ 0 then true else if b.notices = [] then s.notes.gapPending else false } }) ∧
    (waits → exec (.noticeHandoff source) s = .next s)

/-- NPOP, CPOP, NLOST_CLEAR, CLOST_CLEAR, NTHR_WRITE and CTHR_WRITE, and the head windows (R167 to R170, R172, R184): a pop removes the head and is ignored
on an empty queue; a count is cleared by 0 alone; a threshold takes 1 to 16, or 1 to 32; every other write changes nothing, and so does every write while
the part is held in reset (R139, log 22). Reads return the counts and the thresholds, and 0 for NPOP and CPOP; NHD and CHD show the head entry byte by
byte, or that there is none. -/
def Obligations.CountsAndThresholdsAreWritten : Prop :=
  ∀ (s : State) (v : Byte),
    (s.sched.hold = none →
      (∀ (e : NoticeEntry) (rest : List NoticeEntry), s.notes.queue = e :: rest →
        exec .npop s = .next { s with notes := { s.notes with queue := rest } }) ∧
      (s.notes.queue = [] → exec .npop s = .next s) ∧
      (∀ (e : LogEntry) (rest : List LogEntry), s.cap.log = e :: rest → exec .cpop s = .next { s with cap := { s.cap with log := rest } }) ∧
      (s.cap.log = [] → exec .cpop s = .next s) ∧
      exec (.nlostClear v) s = .next { s with notes := { s.notes with nlost := if v = 0 then 0 else s.notes.nlost } } ∧
      exec (.clostClear v) s = .next { s with cap := { s.cap with clost := if v = 0 then 0 else s.cap.clost } } ∧
      exec (.nthrWrite v) s =
        .next { s with notes := { s.notes with nthr := if 1 ≤ v.toNat ∧ v.toNat ≤ 16 then v.toNat else s.notes.nthr } } ∧
      exec (.cthrWrite v) s =
        .next { s with notes := { s.notes with cthr := if 1 ≤ v.toNat ∧ v.toNat ≤ 32 then v.toNat else s.notes.cthr } }) ∧
    (s.sched.hold.isSome = true →
      ∀ c ∈ ([.npop, .cpop, .nlostClear v, .clostClear v, .nthrWrite v, .cthrWrite v] : List Instr), exec c s = .next s) ∧
    (s.busRead 0x0F = byteOf s.notes.nthr ∧ s.busRead 0x10 = byteOf s.notes.cthr ∧ s.busRead 0x11 = byteOf s.notes.nlost ∧
      s.busRead 0x12 = byteOf s.cap.clost ∧ s.busRead 0x13 = byteOf s.notes.queue.length ∧ s.busRead 0x14 = byteOf s.cap.log.length ∧
      s.busRead 0x15 = 0 ∧ s.busRead 0x16 = 0) ∧
    (let nhd : List Byte := [0x40, 0x41, 0x42, 0x43, 0x44, 0x45, 0x46, 0x47].map s.busRead
     (s.notes.queue = [] → nhd = [0, 255, 0, 0, 0, 0, 0, 0]) ∧
     (∀ (e : NoticeEntry) (rest : List NoticeEntry), s.notes.queue = e :: rest →
       let time := e.notice.time.toNat
       nhd = [BitVec.ofNat 8 (e.notice.kind.code + (if e.gap then 128 else 0)),
         (match e.notice.handle with
           | some h => BitVec.ofNat 8 h.slot.val
           | none => 255),
         (match e.notice.handle with
           | some h => h.tag
           | none => 0),
         BitVec.ofNat 8 time, BitVec.ofNat 8 (time / 2 ^ 8), BitVec.ofNat 8 (time / 2 ^ 16), BitVec.ofNat 8 (time / 2 ^ 24), e.notice.detail])) ∧
    (let chd : List Byte := [0x48, 0x49, 0x4A, 0x4B, 0x4C, 0x4D, 0x4E, 0x4F].map s.busRead
     (s.cap.log = [] → chd = [0, 0, 0, 0, 0, 0, 0, 0]) ∧
     (∀ (e : LogEntry) (rest : List LogEntry), s.cap.log = e :: rest →
       let time := e.timestamp.toNat
       chd = [BitVec.ofNat 8 e.line.val, BitVec.ofNat 8 ((if e.rise then 1 else 2) + (if e.gap then 128 else 0)),
         BitVec.ofNat 8 time, BitVec.ofNat 8 (time / 2 ^ 8), BitVec.ofNat 8 (time / 2 ^ 16), BitVec.ofNat 8 (time / 2 ^ 24), 0, 0])) ∧
    ([NoticeKind.fired, .done, .late, .missed, .conflict, .blocked, .aborted, .sent, .sendDropped, .sendAborted, .frameEmpty, .haltEntered,
      .haltReleased, .recovered, .synced, .syncRejected].map NoticeKind.code = [1, 2, 3, 4, 5, 6, 7, 8, 9, 10, 11, 12, 13, 14, 15, 16])

/-- FLAG_SET_REQUEST, IFLG_CLEAR, IEN_WRITE, WAKE_REQUEST and WAKE_CLEAR, and the flags the host sees (R171, R173 to R175, R181): a request sets its sticky flag; a
write of 1 clears a sticky flag and leaves the level flags, which stand exactly while their counts are at or above their thresholds; INTQ# is asserted
exactly while some flag and its enable are both set. Writes are ignored while the part is held in reset (R139, log 22).
That a request for one flag is taken past an earlier one for another is the model's choice (log 28). -/
def Obligations.FlagsAreSetClearedAndShown : Prop :=
  ∀ (s : State) (v : Byte),
    let position : StickyFlag → Nat := fun f =>
      match f with
      | .cmdDone => 0
      | .cmdRefused => 1
      | .noticeLost => 4
      | .captureLost => 5
      | .halt => 6
      | .serialIdle => 7
    (∀ f ∈ s.flight.flags, ∃ sticky : Byte,
      exec (.flagSetRequest f) s = .next { s with
        flight := { s.flight with flags := s.flight.flags.erase f }, notes := { s.notes with sticky := sticky } } ∧
      ∀ i : Nat, sticky.getLsbD i = (decide (i = position f) || s.notes.sticky.getLsbD i)) ∧
    (s.sched.hold = none →
      (∃ sticky : Byte, exec (.iflgClear v) s = .next { s with notes := { s.notes with sticky := sticky } } ∧
        ∀ i : Nat, sticky.getLsbD i = (s.notes.sticky.getLsbD i && !v.getLsbD i)) ∧
      exec (.ienWrite v) s = .next { s with notes := { s.notes with ien := v } } ∧
      exec (.wakeClear v) s = .next { s with notes := { s.notes with wake := s.notes.wake && !v.getLsbD 0 } }) ∧
    (∀ k : Nat, s.flight.wakes = k + 1 →
      exec .wakeRequest s = .next { s with flight := { s.flight with wakes := k }, notes := { s.notes with wake := true } }) ∧
    (s.notes.sticky &&& 0x0C = 0 →
      (s.busRead 0x05).getLsbD 2 = decide (s.notes.nthr ≤ s.notes.queue.length) ∧
      (s.busRead 0x05).getLsbD 3 = decide (s.notes.cthr ≤ s.cap.log.length) ∧
      (∀ i : Nat, i ≠ 2 → i ≠ 3 → (s.busRead 0x05).getLsbD i = s.notes.sticky.getLsbD i) ∧
      (s.intqAsserted = true ↔ ∃ i : Nat, (s.busRead 0x05).getLsbD i = true ∧ (s.busRead 0x06).getLsbD i = true)) ∧
    (s.sched.hold.isSome = true →
      exec (.iflgClear v) s = .next s ∧ exec (.ienWrite v) s = .next s ∧ exec (.wakeClear v) s = .next s)
end

