-- ==== Sys2Proof/Laws/State.lean ====
section
/-! SUPPORT. What each named update of the state leaves: one lemma for each field it keeps, and the value of each field it changes. -/

namespace Sys2Proof.Machine

open Sys2Proof


/-! `handNotices` -/

@[simp] theorem handNotices_time (src : NoticeSource) (ns : List Notice) (s : State) (first : Bool) : (s.handNotices src ns first).time = s.time := by
  cases ns <;> rfl
@[simp] theorem handNotices_slots (src : NoticeSource) (ns : List Notice) (s : State) (first : Bool) : (s.handNotices src ns first).slots = s.slots := by
  cases ns <;> rfl
@[simp] theorem handNotices_fire (src : NoticeSource) (ns : List Notice) (s : State) (first : Bool) : (s.handNotices src ns first).fire = s.fire := by
  cases ns <;> rfl
@[simp] theorem handNotices_out (src : NoticeSource) (ns : List Notice) (s : State) (first : Bool) : (s.handNotices src ns first).out = s.out := by
  cases ns <;> rfl
@[simp] theorem handNotices_cap (src : NoticeSource) (ns : List Notice) (s : State) (first : Bool) : (s.handNotices src ns first).cap = s.cap := by
  cases ns <;> rfl
@[simp] theorem handNotices_chan (src : NoticeSource) (ns : List Notice) (s : State) (first : Bool) : (s.handNotices src ns first).chan = s.chan := by
  cases ns <;> rfl
@[simp] theorem handNotices_sched (src : NoticeSource) (ns : List Notice) (s : State) (first : Bool) : (s.handNotices src ns first).sched = s.sched := by
  cases ns <;> rfl
@[simp] theorem handNotices_engine (src : NoticeSource) (ns : List Notice) (s : State) (first : Bool) : (s.handNotices src ns first).engine = s.engine := by
  cases ns <;> rfl
@[simp] theorem handNotices_notes (src : NoticeSource) (ns : List Notice) (s : State) (first : Bool) : (s.handNotices src ns first).notes = s.notes := by
  cases ns <;> rfl
@[simp] theorem handNotices_pins (src : NoticeSource) (ns : List Notice) (s : State) (first : Bool) : (s.handNotices src ns first).pins = s.pins := by
  cases ns <;> rfl
@[simp] theorem handNotices_lastRead (src : NoticeSource) (ns : List Notice) (s : State) (first : Bool) : (s.handNotices src ns first).lastRead = s.lastRead := by
  cases ns <;> rfl
@[simp] theorem handNotices_flight (src : NoticeSource) (ns : List Notice) (s : State) (first : Bool) : (s.handNotices src ns first).flight = { s.flight with notices := s.flight.notices ++ batchOf src ns (if src = .frame then haltsWaiting s.flight.frameCtl else 0) first } := by
  cases ns <;> simp [State.handNotices, batchOf]
@[simp] theorem handNotices_pending (src : NoticeSource) (ns : List Notice) (s : State) (first : Bool) : (s.handNotices src ns first).pending = s.pending := by
  cases ns <;> rfl

/-! `handEdge` -/

@[simp] theorem handEdge_time (r : EdgeRequest) (s : State) : (s.handEdge r).time = s.time := rfl
@[simp] theorem handEdge_slots (r : EdgeRequest) (s : State) : (s.handEdge r).slots = s.slots := rfl
@[simp] theorem handEdge_fire (r : EdgeRequest) (s : State) : (s.handEdge r).fire = s.fire := rfl
@[simp] theorem handEdge_out (r : EdgeRequest) (s : State) : (s.handEdge r).out = s.out := rfl
@[simp] theorem handEdge_cap (r : EdgeRequest) (s : State) : (s.handEdge r).cap = s.cap := rfl
@[simp] theorem handEdge_chan (r : EdgeRequest) (s : State) : (s.handEdge r).chan = s.chan := rfl
@[simp] theorem handEdge_sched (r : EdgeRequest) (s : State) : (s.handEdge r).sched = s.sched := rfl
@[simp] theorem handEdge_engine (r : EdgeRequest) (s : State) : (s.handEdge r).engine = s.engine := rfl
@[simp] theorem handEdge_notes (r : EdgeRequest) (s : State) : (s.handEdge r).notes = s.notes := rfl
@[simp] theorem handEdge_pins (r : EdgeRequest) (s : State) : (s.handEdge r).pins = s.pins := rfl
@[simp] theorem handEdge_lastRead (r : EdgeRequest) (s : State) : (s.handEdge r).lastRead = s.lastRead := rfl
@[simp] theorem handEdge_flight (r : EdgeRequest) (s : State) : (s.handEdge r).flight = { s.flight with edges := s.flight.edges ++ [r] } := rfl
@[simp] theorem handEdge_pending (r : EdgeRequest) (s : State) : (s.handEdge r).pending = s.pending := rfl

/-! `requestFlag` -/

@[simp] theorem requestFlag_time (f : StickyFlag) (s : State) : (s.requestFlag f).time = s.time := rfl
@[simp] theorem requestFlag_slots (f : StickyFlag) (s : State) : (s.requestFlag f).slots = s.slots := rfl
@[simp] theorem requestFlag_fire (f : StickyFlag) (s : State) : (s.requestFlag f).fire = s.fire := rfl
@[simp] theorem requestFlag_out (f : StickyFlag) (s : State) : (s.requestFlag f).out = s.out := rfl
@[simp] theorem requestFlag_cap (f : StickyFlag) (s : State) : (s.requestFlag f).cap = s.cap := rfl
@[simp] theorem requestFlag_chan (f : StickyFlag) (s : State) : (s.requestFlag f).chan = s.chan := rfl
@[simp] theorem requestFlag_sched (f : StickyFlag) (s : State) : (s.requestFlag f).sched = s.sched := rfl
@[simp] theorem requestFlag_engine (f : StickyFlag) (s : State) : (s.requestFlag f).engine = s.engine := rfl
@[simp] theorem requestFlag_notes (f : StickyFlag) (s : State) : (s.requestFlag f).notes = s.notes := rfl
@[simp] theorem requestFlag_pins (f : StickyFlag) (s : State) : (s.requestFlag f).pins = s.pins := rfl
@[simp] theorem requestFlag_lastRead (f : StickyFlag) (s : State) : (s.requestFlag f).lastRead = s.lastRead := rfl
@[simp] theorem requestFlag_flight (f : StickyFlag) (s : State) : (s.requestFlag f).flight = { s.flight with flags := s.flight.flags ++ [f] } := rfl
@[simp] theorem requestFlag_pending (f : StickyFlag) (s : State) : (s.requestFlag f).pending = s.pending := rfl

/-! `handRestores` -/

@[simp] theorem handRestores_time (rs : List EdgeRequest) (s : State) : (s.handRestores rs).time = s.time := rfl
@[simp] theorem handRestores_slots (rs : List EdgeRequest) (s : State) : (s.handRestores rs).slots = s.slots := rfl
@[simp] theorem handRestores_fire (rs : List EdgeRequest) (s : State) : (s.handRestores rs).fire = s.fire := rfl
@[simp] theorem handRestores_out (rs : List EdgeRequest) (s : State) : (s.handRestores rs).out = s.out := rfl
@[simp] theorem handRestores_cap (rs : List EdgeRequest) (s : State) : (s.handRestores rs).cap = s.cap := rfl
@[simp] theorem handRestores_chan (rs : List EdgeRequest) (s : State) : (s.handRestores rs).chan = s.chan := rfl
@[simp] theorem handRestores_sched (rs : List EdgeRequest) (s : State) : (s.handRestores rs).sched = s.sched := rfl
@[simp] theorem handRestores_engine (rs : List EdgeRequest) (s : State) : (s.handRestores rs).engine = s.engine := rfl
@[simp] theorem handRestores_notes (rs : List EdgeRequest) (s : State) : (s.handRestores rs).notes = s.notes := rfl
@[simp] theorem handRestores_pins (rs : List EdgeRequest) (s : State) : (s.handRestores rs).pins = s.pins := rfl
@[simp] theorem handRestores_lastRead (rs : List EdgeRequest) (s : State) : (s.handRestores rs).lastRead = s.lastRead := rfl
@[simp] theorem handRestores_flight (rs : List EdgeRequest) (s : State) : (s.handRestores rs).flight = { s.flight with restores := s.flight.restores ++ rs } := rfl
@[simp] theorem handRestores_pending (rs : List EdgeRequest) (s : State) : (s.handRestores rs).pending = s.pending := rfl

/-! `setSlot` -/

@[simp] theorem setSlot_time (n : SlotNo) (sl : Slot) (s : State) : (s.setSlot n sl).time = s.time := rfl
@[simp] theorem setSlot_slots (n : SlotNo) (sl : Slot) (s : State) : (s.setSlot n sl).slots = s.slots.set n.val sl n.isLt := rfl
@[simp] theorem setSlot_fire (n : SlotNo) (sl : Slot) (s : State) : (s.setSlot n sl).fire = s.fire := rfl
@[simp] theorem setSlot_out (n : SlotNo) (sl : Slot) (s : State) : (s.setSlot n sl).out = s.out := rfl
@[simp] theorem setSlot_cap (n : SlotNo) (sl : Slot) (s : State) : (s.setSlot n sl).cap = s.cap := rfl
@[simp] theorem setSlot_chan (n : SlotNo) (sl : Slot) (s : State) : (s.setSlot n sl).chan = s.chan := rfl
@[simp] theorem setSlot_sched (n : SlotNo) (sl : Slot) (s : State) : (s.setSlot n sl).sched = s.sched := rfl
@[simp] theorem setSlot_engine (n : SlotNo) (sl : Slot) (s : State) : (s.setSlot n sl).engine = s.engine := rfl
@[simp] theorem setSlot_notes (n : SlotNo) (sl : Slot) (s : State) : (s.setSlot n sl).notes = s.notes := rfl
@[simp] theorem setSlot_pins (n : SlotNo) (sl : Slot) (s : State) : (s.setSlot n sl).pins = s.pins := rfl
@[simp] theorem setSlot_lastRead (n : SlotNo) (sl : Slot) (s : State) : (s.setSlot n sl).lastRead = s.lastRead := rfl
@[simp] theorem setSlot_flight (n : SlotNo) (sl : Slot) (s : State) : (s.setSlot n sl).flight = s.flight := rfl
@[simp] theorem setSlot_pending (n : SlotNo) (sl : Slot) (s : State) : (s.setSlot n sl).pending = s.pending := rfl

/-! `setCapLine` -/

@[simp] theorem setCapLine_time (c : CapNo) (l : CapLine) (s : State) : (s.setCapLine c l).time = s.time := rfl
@[simp] theorem setCapLine_slots (c : CapNo) (l : CapLine) (s : State) : (s.setCapLine c l).slots = s.slots := rfl
@[simp] theorem setCapLine_fire (c : CapNo) (l : CapLine) (s : State) : (s.setCapLine c l).fire = s.fire := rfl
@[simp] theorem setCapLine_out (c : CapNo) (l : CapLine) (s : State) : (s.setCapLine c l).out = s.out := rfl
@[simp] theorem setCapLine_cap (c : CapNo) (l : CapLine) (s : State) : (s.setCapLine c l).cap = { s.cap with lines := s.cap.lines.set c.val l c.isLt } := rfl
@[simp] theorem setCapLine_chan (c : CapNo) (l : CapLine) (s : State) : (s.setCapLine c l).chan = s.chan := rfl
@[simp] theorem setCapLine_sched (c : CapNo) (l : CapLine) (s : State) : (s.setCapLine c l).sched = s.sched := rfl
@[simp] theorem setCapLine_engine (c : CapNo) (l : CapLine) (s : State) : (s.setCapLine c l).engine = s.engine := rfl
@[simp] theorem setCapLine_notes (c : CapNo) (l : CapLine) (s : State) : (s.setCapLine c l).notes = s.notes := rfl
@[simp] theorem setCapLine_pins (c : CapNo) (l : CapLine) (s : State) : (s.setCapLine c l).pins = s.pins := rfl
@[simp] theorem setCapLine_lastRead (c : CapNo) (l : CapLine) (s : State) : (s.setCapLine c l).lastRead = s.lastRead := rfl
@[simp] theorem setCapLine_flight (c : CapNo) (l : CapLine) (s : State) : (s.setCapLine c l).flight = s.flight := rfl
@[simp] theorem setCapLine_pending (c : CapNo) (l : CapLine) (s : State) : (s.setCapLine c l).pending = s.pending := rfl

/-! `acted` -/

@[simp] theorem acted_time (code : ResultCode) (bytes : List Byte) (s : State) : (s.acted code bytes).time = s.time := rfl
@[simp] theorem acted_slots (code : ResultCode) (bytes : List Byte) (s : State) : (s.acted code bytes).slots = s.slots := rfl
@[simp] theorem acted_fire (code : ResultCode) (bytes : List Byte) (s : State) : (s.acted code bytes).fire = s.fire := rfl
@[simp] theorem acted_out (code : ResultCode) (bytes : List Byte) (s : State) : (s.acted code bytes).out = s.out := rfl
@[simp] theorem acted_cap (code : ResultCode) (bytes : List Byte) (s : State) : (s.acted code bytes).cap = s.cap := rfl
@[simp] theorem acted_chan (code : ResultCode) (bytes : List Byte) (s : State) : (s.acted code bytes).chan = s.chan := rfl
@[simp] theorem acted_sched (code : ResultCode) (bytes : List Byte) (s : State) : (s.acted code bytes).sched = s.sched := rfl
@[simp] theorem acted_engine (code : ResultCode) (bytes : List Byte) (s : State) : (s.acted code bytes).engine = s.engine.withResult code bytes := rfl
@[simp] theorem acted_notes (code : ResultCode) (bytes : List Byte) (s : State) : (s.acted code bytes).notes = s.notes := rfl
@[simp] theorem acted_pins (code : ResultCode) (bytes : List Byte) (s : State) : (s.acted code bytes).pins = s.pins := rfl
@[simp] theorem acted_lastRead (code : ResultCode) (bytes : List Byte) (s : State) : (s.acted code bytes).lastRead = s.lastRead := rfl
@[simp] theorem acted_flight (code : ResultCode) (bytes : List Byte) (s : State) : (s.acted code bytes).flight = s.flight := rfl
@[simp] theorem acted_pending (code : ResultCode) (bytes : List Byte) (s : State) : (s.acted code bytes).pending = s.pending := rfl

/-! `completeCommand` -/

@[simp] theorem completeCommand_time (code : ResultCode) (w : Bytes16) (s : State) : (s.completeCommand code w).time = s.time := rfl
@[simp] theorem completeCommand_slots (code : ResultCode) (w : Bytes16) (s : State) : (s.completeCommand code w).slots = s.slots := rfl
@[simp] theorem completeCommand_fire (code : ResultCode) (w : Bytes16) (s : State) : (s.completeCommand code w).fire = s.fire := rfl
@[simp] theorem completeCommand_out (code : ResultCode) (w : Bytes16) (s : State) : (s.completeCommand code w).out = s.out := rfl
@[simp] theorem completeCommand_cap (code : ResultCode) (w : Bytes16) (s : State) : (s.completeCommand code w).cap = s.cap := rfl
@[simp] theorem completeCommand_chan (code : ResultCode) (w : Bytes16) (s : State) : (s.completeCommand code w).chan = s.chan := rfl
@[simp] theorem completeCommand_sched (code : ResultCode) (w : Bytes16) (s : State) : (s.completeCommand code w).sched = s.sched := rfl
@[simp] theorem completeCommand_engine (code : ResultCode) (w : Bytes16) (s : State) : (s.completeCommand code w).engine = { s.engine with state := .ready, result := code, window := w } := rfl
@[simp] theorem completeCommand_notes (code : ResultCode) (w : Bytes16) (s : State) : (s.completeCommand code w).notes = s.notes := rfl
@[simp] theorem completeCommand_pins (code : ResultCode) (w : Bytes16) (s : State) : (s.completeCommand code w).pins = s.pins := rfl
@[simp] theorem completeCommand_lastRead (code : ResultCode) (w : Bytes16) (s : State) : (s.completeCommand code w).lastRead = s.lastRead := rfl
@[simp] theorem completeCommand_flight (code : ResultCode) (w : Bytes16) (s : State) : (s.completeCommand code w).flight = { s.flight with flags := s.flight.flags ++ [.cmdDone] } := rfl
@[simp] theorem completeCommand_pending (code : ResultCode) (w : Bytes16) (s : State) : (s.completeCommand code w).pending = s.pending := rfl

/-! `beginFiring` -/

@[simp] theorem beginFiring_time  (s : State) : (s.beginFiring).time = s.time := rfl
@[simp] theorem beginFiring_slots  (s : State) : (s.beginFiring).slots = s.slots := rfl
@[simp] theorem beginFiring_fire  (s : State) : (s.beginFiring).fire = { s.fire with unit := .firing 0, look := false } := rfl
@[simp] theorem beginFiring_out  (s : State) : (s.beginFiring).out = s.out := rfl
@[simp] theorem beginFiring_cap  (s : State) : (s.beginFiring).cap = s.cap := rfl
@[simp] theorem beginFiring_chan  (s : State) : (s.beginFiring).chan = s.chan := rfl
@[simp] theorem beginFiring_sched  (s : State) : (s.beginFiring).sched = s.sched := rfl
@[simp] theorem beginFiring_engine  (s : State) : (s.beginFiring).engine = s.engine := rfl
@[simp] theorem beginFiring_notes  (s : State) : (s.beginFiring).notes = s.notes := rfl
@[simp] theorem beginFiring_pins  (s : State) : (s.beginFiring).pins = s.pins := rfl
@[simp] theorem beginFiring_lastRead  (s : State) : (s.beginFiring).lastRead = s.lastRead := rfl
@[simp] theorem beginFiring_flight  (s : State) : (s.beginFiring).flight = s.flight := rfl
@[simp] theorem beginFiring_pending  (s : State) : (s.beginFiring).pending = s.pending := rfl

/-! `atMoment` -/

@[simp] theorem atMoment_time  (s : State) : (s.atMoment).time = s.time := by
  unfold State.atMoment; split <;> rfl
@[simp] theorem atMoment_slots  (s : State) : (s.atMoment).slots = s.slots := by
  unfold State.atMoment; split <;> rfl
@[simp] theorem atMoment_fire  (s : State) : (s.atMoment).fire = { s.fire with look := if s.fire.unit = .idle then s.workWaiting else s.fire.look } := by
  unfold State.atMoment; split
  · rename_i h; simp [h]
  · rename_i h; rw [if_neg (by simp [h])]
@[simp] theorem atMoment_out  (s : State) : (s.atMoment).out = s.out := by
  unfold State.atMoment; split <;> rfl
@[simp] theorem atMoment_cap  (s : State) : (s.atMoment).cap = s.cap := by
  unfold State.atMoment; split <;> rfl
@[simp] theorem atMoment_chan  (s : State) : (s.atMoment).chan = s.chan := by
  unfold State.atMoment; split <;> rfl
@[simp] theorem atMoment_sched  (s : State) : (s.atMoment).sched = s.sched := by
  unfold State.atMoment; split <;> rfl
@[simp] theorem atMoment_engine  (s : State) : (s.atMoment).engine = s.engine := by
  unfold State.atMoment; split <;> rfl
@[simp] theorem atMoment_notes  (s : State) : (s.atMoment).notes = s.notes := by
  unfold State.atMoment; split <;> rfl
@[simp] theorem atMoment_pins  (s : State) : (s.atMoment).pins = s.pins := by
  unfold State.atMoment; split <;> rfl
@[simp] theorem atMoment_lastRead  (s : State) : (s.atMoment).lastRead = s.lastRead := by
  unfold State.atMoment; split <;> rfl
@[simp] theorem atMoment_flight  (s : State) : (s.atMoment).flight = s.flight := by
  unfold State.atMoment; split <;> rfl
@[simp] theorem atMoment_pending  (s : State) : (s.atMoment).pending = s.pending := by
  unfold State.atMoment; split <;> rfl

/-! `momentIfNewHead` -/

@[simp] theorem momentIfNewHead_time (h : Option SlotNo) (s : State) : (s.momentIfNewHead h).time = s.time := by
  unfold State.momentIfNewHead; split <;> simp
@[simp] theorem momentIfNewHead_slots (h : Option SlotNo) (s : State) : (s.momentIfNewHead h).slots = s.slots := by
  unfold State.momentIfNewHead; split <;> simp
@[simp] theorem momentIfNewHead_out (h : Option SlotNo) (s : State) : (s.momentIfNewHead h).out = s.out := by
  unfold State.momentIfNewHead; split <;> simp
@[simp] theorem momentIfNewHead_cap (h : Option SlotNo) (s : State) : (s.momentIfNewHead h).cap = s.cap := by
  unfold State.momentIfNewHead; split <;> simp
@[simp] theorem momentIfNewHead_chan (h : Option SlotNo) (s : State) : (s.momentIfNewHead h).chan = s.chan := by
  unfold State.momentIfNewHead; split <;> simp
@[simp] theorem momentIfNewHead_sched (h : Option SlotNo) (s : State) : (s.momentIfNewHead h).sched = s.sched := by
  unfold State.momentIfNewHead; split <;> simp
@[simp] theorem momentIfNewHead_engine (h : Option SlotNo) (s : State) : (s.momentIfNewHead h).engine = s.engine := by
  unfold State.momentIfNewHead; split <;> simp
@[simp] theorem momentIfNewHead_notes (h : Option SlotNo) (s : State) : (s.momentIfNewHead h).notes = s.notes := by
  unfold State.momentIfNewHead; split <;> simp
@[simp] theorem momentIfNewHead_pins (h : Option SlotNo) (s : State) : (s.momentIfNewHead h).pins = s.pins := by
  unfold State.momentIfNewHead; split <;> simp
@[simp] theorem momentIfNewHead_lastRead (h : Option SlotNo) (s : State) : (s.momentIfNewHead h).lastRead = s.lastRead := by
  unfold State.momentIfNewHead; split <;> simp
@[simp] theorem momentIfNewHead_flight (h : Option SlotNo) (s : State) : (s.momentIfNewHead h).flight = s.flight := by
  unfold State.momentIfNewHead; split <;> simp
@[simp] theorem momentIfNewHead_pending (h : Option SlotNo) (s : State) : (s.momentIfNewHead h).pending = s.pending := by
  unfold State.momentIfNewHead; split <;> simp

/-- A moment of R47 touches the look alone. -/
@[simp] theorem momentIfNewHead_dueQueue (h : Option SlotNo) (s : State) : (s.momentIfNewHead h).fire.dueQueue = s.fire.dueQueue := by
  unfold State.momentIfNewHead; split <;> simp

@[simp] theorem momentIfNewHead_overdue (h : Option SlotNo) (s : State) : (s.momentIfNewHead h).fire.overdue = s.fire.overdue := by
  unfold State.momentIfNewHead; split <;> simp

@[simp] theorem momentIfNewHead_unit (h : Option SlotNo) (s : State) : (s.momentIfNewHead h).fire.unit = s.fire.unit := by
  unfold State.momentIfNewHead; split <;> simp

/-- A firing unit at work looks at nothing. -/
theorem momentIfNewHead_firing (h : Option SlotNo) (s : State) (hu : s.fire.unit ≠ .idle) : s.momentIfNewHead h = s := by
  unfold State.momentIfNewHead State.atMoment; split <;> (try rfl)
  split <;> simp_all

/-- Two states with the same fields are the same state. -/
theorem state_eq_of_fields {s t : State} (h1 : s.time = t.time) (h2 : s.slots = t.slots) (h3 : s.fire = t.fire) (h4 : s.out = t.out)
    (h5 : s.cap = t.cap) (h6 : s.chan = t.chan) (h7 : s.sched = t.sched) (h8 : s.engine = t.engine) (h9 : s.notes = t.notes)
    (h10 : s.pins = t.pins) (h11 : s.lastRead = t.lastRead) (h12 : s.flight = t.flight) (h13 : s.pending = t.pending) : s = t := by
  cases s; cases t; simp_all


end Sys2Proof.Machine
end

