-- ==== Sys2Proof/Laws/Places.lean ====
section
/-! SUPPORT. The moves of a slot between places (R18): what each leaves in the slots, in the two queues and in the park lists, and all that it
does not touch. -/

namespace Sys2Proof.Machine

open Sys2Proof


/-! `detach`: what it does not touch -/

@[simp] theorem detach_time (n : SlotNo) (s : State) : (s.detach n).time = s.time := by
  unfold State.detach; split <;> (try split) <;> simp
@[simp] theorem detach_out (n : SlotNo) (s : State) : (s.detach n).out = s.out := by
  unfold State.detach; split <;> (try split) <;> simp
@[simp] theorem detach_chan (n : SlotNo) (s : State) : (s.detach n).chan = s.chan := by
  unfold State.detach; split <;> (try split) <;> simp
@[simp] theorem detach_sched (n : SlotNo) (s : State) : (s.detach n).sched = s.sched := by
  unfold State.detach; split <;> (try split) <;> simp
@[simp] theorem detach_engine (n : SlotNo) (s : State) : (s.detach n).engine = s.engine := by
  unfold State.detach; split <;> (try split) <;> simp
@[simp] theorem detach_notes (n : SlotNo) (s : State) : (s.detach n).notes = s.notes := by
  unfold State.detach; split <;> (try split) <;> simp
@[simp] theorem detach_pins (n : SlotNo) (s : State) : (s.detach n).pins = s.pins := by
  unfold State.detach; split <;> (try split) <;> simp
@[simp] theorem detach_lastRead (n : SlotNo) (s : State) : (s.detach n).lastRead = s.lastRead := by
  unfold State.detach; split <;> (try split) <;> simp
@[simp] theorem detach_flight (n : SlotNo) (s : State) : (s.detach n).flight = s.flight := by
  unfold State.detach; split <;> (try split) <;> simp
@[simp] theorem detach_pending (n : SlotNo) (s : State) : (s.detach n).pending = s.pending := by
  unfold State.detach; split <;> (try split) <;> simp
@[simp] theorem detach_unit (n : SlotNo) (s : State) : (s.detach n).fire.unit = s.fire.unit := by
  unfold State.detach; split <;> (try split) <;> simp
@[simp] theorem detach_cap_lines (n : SlotNo) (s : State) : (s.detach n).cap.lines = s.cap.lines := by
  unfold State.detach; split <;> (try split) <;> simp
@[simp] theorem detach_cap_log (n : SlotNo) (s : State) : (s.detach n).cap.log = s.cap.log := by
  unfold State.detach; split <;> (try split) <;> simp
@[simp] theorem detach_cap_clost (n : SlotNo) (s : State) : (s.detach n).cap.clost = s.cap.clost := by
  unfold State.detach; split <;> (try split) <;> simp
@[simp] theorem detach_cap_gapPending (n : SlotNo) (s : State) : (s.detach n).cap.gapPending = s.cap.gapPending := by
  unfold State.detach; split <;> (try split) <;> simp
@[simp] theorem detach_slots (n : SlotNo) (s : State) : (s.detach n).slots = s.slots := by
  unfold State.detach; split <;> (try split) <;> simp

/-! `appendPark`: what it does not touch -/

@[simp] theorem appendPark_time (n : SlotNo) (s : State) : (s.appendPark n).time = s.time := by
  unfold State.appendPark; split <;> (try split) <;> rfl
@[simp] theorem appendPark_out (n : SlotNo) (s : State) : (s.appendPark n).out = s.out := by
  unfold State.appendPark; split <;> (try split) <;> rfl
@[simp] theorem appendPark_chan (n : SlotNo) (s : State) : (s.appendPark n).chan = s.chan := by
  unfold State.appendPark; split <;> (try split) <;> rfl
@[simp] theorem appendPark_sched (n : SlotNo) (s : State) : (s.appendPark n).sched = s.sched := by
  unfold State.appendPark; split <;> (try split) <;> rfl
@[simp] theorem appendPark_engine (n : SlotNo) (s : State) : (s.appendPark n).engine = s.engine := by
  unfold State.appendPark; split <;> (try split) <;> rfl
@[simp] theorem appendPark_notes (n : SlotNo) (s : State) : (s.appendPark n).notes = s.notes := by
  unfold State.appendPark; split <;> (try split) <;> rfl
@[simp] theorem appendPark_pins (n : SlotNo) (s : State) : (s.appendPark n).pins = s.pins := by
  unfold State.appendPark; split <;> (try split) <;> rfl
@[simp] theorem appendPark_lastRead (n : SlotNo) (s : State) : (s.appendPark n).lastRead = s.lastRead := by
  unfold State.appendPark; split <;> (try split) <;> rfl
@[simp] theorem appendPark_flight (n : SlotNo) (s : State) : (s.appendPark n).flight = s.flight := by
  unfold State.appendPark; split <;> (try split) <;> rfl
@[simp] theorem appendPark_pending (n : SlotNo) (s : State) : (s.appendPark n).pending = s.pending := by
  unfold State.appendPark; split <;> (try split) <;> rfl
@[simp] theorem appendPark_unit (n : SlotNo) (s : State) : (s.appendPark n).fire.unit = s.fire.unit := by
  unfold State.appendPark; split <;> (try split) <;> rfl
@[simp] theorem appendPark_cap_lines (n : SlotNo) (s : State) : (s.appendPark n).cap.lines = s.cap.lines := by
  unfold State.appendPark; split <;> (try split) <;> rfl
@[simp] theorem appendPark_cap_log (n : SlotNo) (s : State) : (s.appendPark n).cap.log = s.cap.log := by
  unfold State.appendPark; split <;> (try split) <;> rfl
@[simp] theorem appendPark_cap_clost (n : SlotNo) (s : State) : (s.appendPark n).cap.clost = s.cap.clost := by
  unfold State.appendPark; split <;> (try split) <;> rfl
@[simp] theorem appendPark_cap_gapPending (n : SlotNo) (s : State) : (s.appendPark n).cap.gapPending = s.cap.gapPending := by
  unfold State.appendPark; split <;> (try split) <;> rfl
@[simp] theorem appendPark_slots (n : SlotNo) (s : State) : (s.appendPark n).slots = s.slots := by
  unfold State.appendPark; split <;> (try split) <;> rfl
@[simp] theorem appendPark_fire (n : SlotNo) (s : State) : (s.appendPark n).fire = s.fire := by
  unfold State.appendPark; split <;> (try split) <;> rfl

/-! `putFree`: what it does not touch -/

@[simp] theorem putFree_time (n : SlotNo) (s : State) : (s.putFree n).time = s.time := by
  simp [State.putFree]
@[simp] theorem putFree_out (n : SlotNo) (s : State) : (s.putFree n).out = s.out := by
  simp [State.putFree]
@[simp] theorem putFree_chan (n : SlotNo) (s : State) : (s.putFree n).chan = s.chan := by
  simp [State.putFree]
@[simp] theorem putFree_sched (n : SlotNo) (s : State) : (s.putFree n).sched = s.sched := by
  simp [State.putFree]
@[simp] theorem putFree_engine (n : SlotNo) (s : State) : (s.putFree n).engine = s.engine := by
  simp [State.putFree]
@[simp] theorem putFree_notes (n : SlotNo) (s : State) : (s.putFree n).notes = s.notes := by
  simp [State.putFree]
@[simp] theorem putFree_pins (n : SlotNo) (s : State) : (s.putFree n).pins = s.pins := by
  simp [State.putFree]
@[simp] theorem putFree_lastRead (n : SlotNo) (s : State) : (s.putFree n).lastRead = s.lastRead := by
  simp [State.putFree]
@[simp] theorem putFree_flight (n : SlotNo) (s : State) : (s.putFree n).flight = s.flight := by
  simp [State.putFree]
@[simp] theorem putFree_pending (n : SlotNo) (s : State) : (s.putFree n).pending = s.pending := by
  simp [State.putFree]
@[simp] theorem putFree_unit (n : SlotNo) (s : State) : (s.putFree n).fire.unit = s.fire.unit := by
  simp [State.putFree]
@[simp] theorem putFree_cap_lines (n : SlotNo) (s : State) : (s.putFree n).cap.lines = s.cap.lines := by
  simp [State.putFree]
@[simp] theorem putFree_cap_log (n : SlotNo) (s : State) : (s.putFree n).cap.log = s.cap.log := by
  simp [State.putFree]
@[simp] theorem putFree_cap_clost (n : SlotNo) (s : State) : (s.putFree n).cap.clost = s.cap.clost := by
  simp [State.putFree]
@[simp] theorem putFree_cap_gapPending (n : SlotNo) (s : State) : (s.putFree n).cap.gapPending = s.cap.gapPending := by
  simp [State.putFree]

/-! `putQueued`: what it does not touch -/

@[simp] theorem putQueued_time (n : SlotNo) (sl : Slot) (due : Tick) (ph : QueuePhase) (s : State) : (s.putQueued n sl due ph).time = s.time := by
  simp [State.putQueued]
@[simp] theorem putQueued_out (n : SlotNo) (sl : Slot) (due : Tick) (ph : QueuePhase) (s : State) : (s.putQueued n sl due ph).out = s.out := by
  simp [State.putQueued]
@[simp] theorem putQueued_chan (n : SlotNo) (sl : Slot) (due : Tick) (ph : QueuePhase) (s : State) : (s.putQueued n sl due ph).chan = s.chan := by
  simp [State.putQueued]
@[simp] theorem putQueued_sched (n : SlotNo) (sl : Slot) (due : Tick) (ph : QueuePhase) (s : State) : (s.putQueued n sl due ph).sched = s.sched := by
  simp [State.putQueued]
@[simp] theorem putQueued_engine (n : SlotNo) (sl : Slot) (due : Tick) (ph : QueuePhase) (s : State) : (s.putQueued n sl due ph).engine = s.engine := by
  simp [State.putQueued]
@[simp] theorem putQueued_notes (n : SlotNo) (sl : Slot) (due : Tick) (ph : QueuePhase) (s : State) : (s.putQueued n sl due ph).notes = s.notes := by
  simp [State.putQueued]
@[simp] theorem putQueued_pins (n : SlotNo) (sl : Slot) (due : Tick) (ph : QueuePhase) (s : State) : (s.putQueued n sl due ph).pins = s.pins := by
  simp [State.putQueued]
@[simp] theorem putQueued_lastRead (n : SlotNo) (sl : Slot) (due : Tick) (ph : QueuePhase) (s : State) : (s.putQueued n sl due ph).lastRead = s.lastRead := by
  simp [State.putQueued]
@[simp] theorem putQueued_flight (n : SlotNo) (sl : Slot) (due : Tick) (ph : QueuePhase) (s : State) : (s.putQueued n sl due ph).flight = s.flight := by
  simp [State.putQueued]
@[simp] theorem putQueued_pending (n : SlotNo) (sl : Slot) (due : Tick) (ph : QueuePhase) (s : State) : (s.putQueued n sl due ph).pending = s.pending := by
  simp [State.putQueued]
@[simp] theorem putQueued_unit (n : SlotNo) (sl : Slot) (due : Tick) (ph : QueuePhase) (s : State) : (s.putQueued n sl due ph).fire.unit = s.fire.unit := by
  simp [State.putQueued]
@[simp] theorem putQueued_cap_lines (n : SlotNo) (sl : Slot) (due : Tick) (ph : QueuePhase) (s : State) : (s.putQueued n sl due ph).cap.lines = s.cap.lines := by
  simp [State.putQueued]
@[simp] theorem putQueued_cap_log (n : SlotNo) (sl : Slot) (due : Tick) (ph : QueuePhase) (s : State) : (s.putQueued n sl due ph).cap.log = s.cap.log := by
  simp [State.putQueued]
@[simp] theorem putQueued_cap_clost (n : SlotNo) (sl : Slot) (due : Tick) (ph : QueuePhase) (s : State) : (s.putQueued n sl due ph).cap.clost = s.cap.clost := by
  simp [State.putQueued]
@[simp] theorem putQueued_cap_gapPending (n : SlotNo) (sl : Slot) (due : Tick) (ph : QueuePhase) (s : State) : (s.putQueued n sl due ph).cap.gapPending = s.cap.gapPending := by
  simp [State.putQueued]

/-! `putOverdue`: what it does not touch -/

@[simp] theorem putOverdue_time (n : SlotNo) (sl : Slot) (due : Tick) (s : State) : (s.putOverdue n sl due).time = s.time := by
  simp [State.putOverdue]
@[simp] theorem putOverdue_out (n : SlotNo) (sl : Slot) (due : Tick) (s : State) : (s.putOverdue n sl due).out = s.out := by
  simp [State.putOverdue]
@[simp] theorem putOverdue_chan (n : SlotNo) (sl : Slot) (due : Tick) (s : State) : (s.putOverdue n sl due).chan = s.chan := by
  simp [State.putOverdue]
@[simp] theorem putOverdue_sched (n : SlotNo) (sl : Slot) (due : Tick) (s : State) : (s.putOverdue n sl due).sched = s.sched := by
  simp [State.putOverdue]
@[simp] theorem putOverdue_engine (n : SlotNo) (sl : Slot) (due : Tick) (s : State) : (s.putOverdue n sl due).engine = s.engine := by
  simp [State.putOverdue]
@[simp] theorem putOverdue_notes (n : SlotNo) (sl : Slot) (due : Tick) (s : State) : (s.putOverdue n sl due).notes = s.notes := by
  simp [State.putOverdue]
@[simp] theorem putOverdue_pins (n : SlotNo) (sl : Slot) (due : Tick) (s : State) : (s.putOverdue n sl due).pins = s.pins := by
  simp [State.putOverdue]
@[simp] theorem putOverdue_lastRead (n : SlotNo) (sl : Slot) (due : Tick) (s : State) : (s.putOverdue n sl due).lastRead = s.lastRead := by
  simp [State.putOverdue]
@[simp] theorem putOverdue_flight (n : SlotNo) (sl : Slot) (due : Tick) (s : State) : (s.putOverdue n sl due).flight = s.flight := by
  simp [State.putOverdue]
@[simp] theorem putOverdue_pending (n : SlotNo) (sl : Slot) (due : Tick) (s : State) : (s.putOverdue n sl due).pending = s.pending := by
  simp [State.putOverdue]
@[simp] theorem putOverdue_unit (n : SlotNo) (sl : Slot) (due : Tick) (s : State) : (s.putOverdue n sl due).fire.unit = s.fire.unit := by
  simp [State.putOverdue]
@[simp] theorem putOverdue_cap_lines (n : SlotNo) (sl : Slot) (due : Tick) (s : State) : (s.putOverdue n sl due).cap.lines = s.cap.lines := by
  simp [State.putOverdue]
@[simp] theorem putOverdue_cap_log (n : SlotNo) (sl : Slot) (due : Tick) (s : State) : (s.putOverdue n sl due).cap.log = s.cap.log := by
  simp [State.putOverdue]
@[simp] theorem putOverdue_cap_clost (n : SlotNo) (sl : Slot) (due : Tick) (s : State) : (s.putOverdue n sl due).cap.clost = s.cap.clost := by
  simp [State.putOverdue]
@[simp] theorem putOverdue_cap_gapPending (n : SlotNo) (sl : Slot) (due : Tick) (s : State) : (s.putOverdue n sl due).cap.gapPending = s.cap.gapPending := by
  simp [State.putOverdue]

/-! `putParked`: what it does not touch -/

@[simp] theorem putParked_time (n : SlotNo) (sl : Slot) (s : State) : (s.putParked n sl).time = s.time := by
  simp [State.putParked]
@[simp] theorem putParked_out (n : SlotNo) (sl : Slot) (s : State) : (s.putParked n sl).out = s.out := by
  simp [State.putParked]
@[simp] theorem putParked_chan (n : SlotNo) (sl : Slot) (s : State) : (s.putParked n sl).chan = s.chan := by
  simp [State.putParked]
@[simp] theorem putParked_sched (n : SlotNo) (sl : Slot) (s : State) : (s.putParked n sl).sched = s.sched := by
  simp [State.putParked]
@[simp] theorem putParked_engine (n : SlotNo) (sl : Slot) (s : State) : (s.putParked n sl).engine = s.engine := by
  simp [State.putParked]
@[simp] theorem putParked_notes (n : SlotNo) (sl : Slot) (s : State) : (s.putParked n sl).notes = s.notes := by
  simp [State.putParked]
@[simp] theorem putParked_pins (n : SlotNo) (sl : Slot) (s : State) : (s.putParked n sl).pins = s.pins := by
  simp [State.putParked]
@[simp] theorem putParked_lastRead (n : SlotNo) (sl : Slot) (s : State) : (s.putParked n sl).lastRead = s.lastRead := by
  simp [State.putParked]
@[simp] theorem putParked_flight (n : SlotNo) (sl : Slot) (s : State) : (s.putParked n sl).flight = s.flight := by
  simp [State.putParked]
@[simp] theorem putParked_pending (n : SlotNo) (sl : Slot) (s : State) : (s.putParked n sl).pending = s.pending := by
  simp [State.putParked]
@[simp] theorem putParked_unit (n : SlotNo) (sl : Slot) (s : State) : (s.putParked n sl).fire.unit = s.fire.unit := by
  simp [State.putParked]
@[simp] theorem putParked_cap_lines (n : SlotNo) (sl : Slot) (s : State) : (s.putParked n sl).cap.lines = s.cap.lines := by
  simp [State.putParked]
@[simp] theorem putParked_cap_log (n : SlotNo) (sl : Slot) (s : State) : (s.putParked n sl).cap.log = s.cap.log := by
  simp [State.putParked]
@[simp] theorem putParked_cap_clost (n : SlotNo) (sl : Slot) (s : State) : (s.putParked n sl).cap.clost = s.cap.clost := by
  simp [State.putParked]
@[simp] theorem putParked_cap_gapPending (n : SlotNo) (sl : Slot) (s : State) : (s.putParked n sl).cap.gapPending = s.cap.gapPending := by
  simp [State.putParked]

/-! `putHeld`: what it does not touch -/

@[simp] theorem putHeld_time (n : SlotNo) (sl : Slot) (r : Resume) (s : State) : (s.putHeld n sl r).time = s.time := by
  simp [State.putHeld]
@[simp] theorem putHeld_out (n : SlotNo) (sl : Slot) (r : Resume) (s : State) : (s.putHeld n sl r).out = s.out := by
  simp [State.putHeld]
@[simp] theorem putHeld_chan (n : SlotNo) (sl : Slot) (r : Resume) (s : State) : (s.putHeld n sl r).chan = s.chan := by
  simp [State.putHeld]
@[simp] theorem putHeld_sched (n : SlotNo) (sl : Slot) (r : Resume) (s : State) : (s.putHeld n sl r).sched = s.sched := by
  simp [State.putHeld]
@[simp] theorem putHeld_engine (n : SlotNo) (sl : Slot) (r : Resume) (s : State) : (s.putHeld n sl r).engine = s.engine := by
  simp [State.putHeld]
@[simp] theorem putHeld_notes (n : SlotNo) (sl : Slot) (r : Resume) (s : State) : (s.putHeld n sl r).notes = s.notes := by
  simp [State.putHeld]
@[simp] theorem putHeld_pins (n : SlotNo) (sl : Slot) (r : Resume) (s : State) : (s.putHeld n sl r).pins = s.pins := by
  simp [State.putHeld]
@[simp] theorem putHeld_lastRead (n : SlotNo) (sl : Slot) (r : Resume) (s : State) : (s.putHeld n sl r).lastRead = s.lastRead := by
  simp [State.putHeld]
@[simp] theorem putHeld_flight (n : SlotNo) (sl : Slot) (r : Resume) (s : State) : (s.putHeld n sl r).flight = s.flight := by
  simp [State.putHeld]
@[simp] theorem putHeld_pending (n : SlotNo) (sl : Slot) (r : Resume) (s : State) : (s.putHeld n sl r).pending = s.pending := by
  simp [State.putHeld]
@[simp] theorem putHeld_unit (n : SlotNo) (sl : Slot) (r : Resume) (s : State) : (s.putHeld n sl r).fire.unit = s.fire.unit := by
  simp [State.putHeld]
@[simp] theorem putHeld_cap_lines (n : SlotNo) (sl : Slot) (r : Resume) (s : State) : (s.putHeld n sl r).cap.lines = s.cap.lines := by
  simp [State.putHeld]
@[simp] theorem putHeld_cap_log (n : SlotNo) (sl : Slot) (r : Resume) (s : State) : (s.putHeld n sl r).cap.log = s.cap.log := by
  simp [State.putHeld]
@[simp] theorem putHeld_cap_clost (n : SlotNo) (sl : Slot) (r : Resume) (s : State) : (s.putHeld n sl r).cap.clost = s.cap.clost := by
  simp [State.putHeld]
@[simp] theorem putHeld_cap_gapPending (n : SlotNo) (sl : Slot) (r : Resume) (s : State) : (s.putHeld n sl r).cap.gapPending = s.cap.gapPending := by
  simp [State.putHeld]

/-! `detach`: the slot leaves the one collection its state names -/

theorem detach_dueQueue (n : SlotNo) (s : State) :
    (s.detach n).fire.dueQueue = if s.slots[n].isQueued then s.fire.dueQueue.erase n else s.fire.dueQueue := by
  unfold State.detach Slot.isQueued; split <;> (try split) <;> simp_all

theorem detach_overdue (n : SlotNo) (s : State) :
    (s.detach n).fire.overdue = if s.slots[n].isOverdue then s.fire.overdue.erase n else s.fire.overdue := by
  unfold State.detach Slot.isOverdue; split <;> (try split) <;> simp_all

theorem detach_parks (n : SlotNo) (s : State) (c : CapNo) :
    (s.detach n).cap.parks[c] = if s.slots[n].parkedOn c then s.cap.parks[c].erase n else s.cap.parks[c] := by
  unfold State.detach Slot.parkedOn Slot.isParked
  cases hp : s.slots[n].place <;> simp
  cases hl : s.slots[n].record.start.parkLine with
  | none => simp
  | some d =>
    by_cases h : d = c
    · subst h; simp
    · have := Fin.val_ne_of_ne h
      simp [h, this]

/-! What each move leaves -/

@[simp] theorem putFree_slots (n : SlotNo) (s : State) : (s.putFree n).slots = s.slots.set n.val (Slot.freed s.slots[n].tag) n.isLt := by
  simp [State.putFree]

@[simp] theorem putQueued_slots (n : SlotNo) (sl : Slot) (due : Tick) (ph : QueuePhase) (s : State) :
    (s.putQueued n sl due ph).slots = s.slots.set n.val { sl with place := .queued due ph } n.isLt := by
  simp [State.putQueued]

@[simp] theorem putOverdue_slots (n : SlotNo) (sl : Slot) (due : Tick) (s : State) :
    (s.putOverdue n sl due).slots = s.slots.set n.val { sl with place := .overdue due } n.isLt := by
  simp [State.putOverdue]

@[simp] theorem putParked_slots (n : SlotNo) (sl : Slot) (s : State) :
    (s.putParked n sl).slots = s.slots.set n.val { sl with place := .parked } n.isLt := by
  simp [State.putParked]

@[simp] theorem putHeld_slots (n : SlotNo) (sl : Slot) (r : Resume) (s : State) :
    (s.putHeld n sl r).slots = s.slots.set n.val { sl with place := .held r } n.isLt := by
  simp [State.putHeld]

@[simp] theorem putFree_fire (n : SlotNo) (s : State) : (s.putFree n).fire = (s.detach n).fire := rfl

@[simp] theorem putHeld_fire (n : SlotNo) (sl : Slot) (r : Resume) (s : State) : (s.putHeld n sl r).fire = (s.detach n).fire := rfl

@[simp] theorem putParked_fire (n : SlotNo) (sl : Slot) (s : State) : (s.putParked n sl).fire = (s.detach n).fire := by
  simp [State.putParked]

@[simp] theorem putOverdue_overdue (n : SlotNo) (sl : Slot) (due : Tick) (s : State) :
    (s.putOverdue n sl due).fire.overdue = (s.detach n).fire.overdue ++ [n] := rfl

@[simp] theorem putOverdue_dueQueue (n : SlotNo) (sl : Slot) (due : Tick) (s : State) :
    (s.putOverdue n sl due).fire.dueQueue = (s.detach n).fire.dueQueue := rfl

@[simp] theorem putQueued_overdue (n : SlotNo) (sl : Slot) (due : Tick) (ph : QueuePhase) (s : State) :
    (s.putQueued n sl due ph).fire.overdue = (s.detach n).fire.overdue := by
  simp [State.putQueued]

/-- The queue after an insertion (R42), by distances in the state the insertion leaves. -/
theorem putQueued_dueQueue (n : SlotNo) (sl : Slot) (due : Tick) (ph : QueuePhase) (s : State) :
    (s.putQueued n sl due ph).fire.dueQueue =
      insertBehind (fun m => decide ((s.putQueued n sl due ph).slotDistance m ≤ distance due s.time.tick)) n (s.detach n).fire.dueQueue := by
  have h : ∀ m, (s.putQueued n sl due ph).slotDistance m =
      ((s.detach n).setSlot n { sl with place := .queued due ph }).slotDistance m := by
    intro m; unfold State.slotDistance; simp
  simp only [h]
  simp [State.putQueued]

@[simp] theorem putFree_parks (n : SlotNo) (s : State) : (s.putFree n).cap.parks = (s.detach n).cap.parks := rfl

@[simp] theorem putHeld_parks (n : SlotNo) (sl : Slot) (r : Resume) (s : State) : (s.putHeld n sl r).cap.parks = (s.detach n).cap.parks := rfl

@[simp] theorem putOverdue_parks (n : SlotNo) (sl : Slot) (due : Tick) (s : State) :
    (s.putOverdue n sl due).cap.parks = (s.detach n).cap.parks := rfl

@[simp] theorem putQueued_parks (n : SlotNo) (sl : Slot) (due : Tick) (ph : QueuePhase) (s : State) :
    (s.putQueued n sl due ph).cap.parks = (s.detach n).cap.parks := by
  simp [State.putQueued]

/-- An append puts a PARKED slot at the tail of its line's list, once (R99). -/
theorem appendPark_parks (n : SlotNo) (s : State) (c : CapNo) :
    (s.appendPark n).cap.parks[c] =
      if s.slots[n].parkedOn c = true ∧ n ∉ s.cap.parks[c] then s.cap.parks[c] ++ [n] else s.cap.parks[c] := by
  unfold State.appendPark Slot.parkedOn Slot.isParked
  cases hp : s.slots[n].place <;> simp
  cases hl : s.slots[n].record.start.parkLine with
  | none => simp
  | some d =>
    by_cases h : d = c
    · subst h; by_cases hm : n ∈ s.cap.parks[d.val] <;> simp [hm]
    · have := Fin.val_ne_of_ne h
      by_cases hm : n ∈ s.cap.parks[d.val] <;> simp [h, hm, this]

/-- A slot parked stands at the tail of its line's list, once (R62, R99). -/
theorem putParked_parks (n : SlotNo) (sl : Slot) (s : State) (c : CapNo) :
    (s.putParked n sl).cap.parks[c] =
      if sl.record.start.parkLine = some c ∧ n ∉ (s.detach n).cap.parks[c] then (s.detach n).cap.parks[c] ++ [n]
      else (s.detach n).cap.parks[c] := by
  unfold State.putParked
  rw [appendPark_parks]
  simp [Slot.parkedOn, Slot.isParked]

/-! Reading one slot after a move -/

@[simp] theorem set_getElem_self (v : Vector Slot 64) (n : SlotNo) (sl : Slot) : (v.set n.val sl n.isLt)[n] = sl := by
  simp [Fin.getElem_fin]

theorem set_getElem_ne (v : Vector Slot 64) (n m : SlotNo) (sl : Slot) (h : m ≠ n) : (v.set n.val sl n.isLt)[m] = v[m] := by
  have := Fin.val_ne_of_ne h
  simp [Fin.getElem_fin, Ne.symm this]

/-! `insertBehind` (R42) -/

/-- The new entry stands behind the last entry that is not after it, and nowhere else. -/
theorem insertBehind_spec (p : SlotNo → Bool) (n : SlotNo) (l : List SlotNo) :
    ∃ before after, l = before ++ after ∧ insertBehind p n l = before ++ n :: after ∧ (∀ m ∈ after, p m = false) ∧
      (before = [] ∨ ∃ x, before.getLast? = some x ∧ p x = true) := by
  induction l with
  | nil => exact ⟨[], [], rfl, rfl, by simp, .inl rfl⟩
  | cons x xs ih =>
    by_cases h : (x :: xs).any p
    · obtain ⟨before, after, h1, h2, h3, h4⟩ := ih
      refine ⟨x :: before, after, by simp [h1], by simp [insertBehind, h, h2], h3, .inr ?_⟩
      rcases h4 with rfl | ⟨y, hy, hp⟩
      · refine ⟨x, rfl, ?_⟩
        simp only [List.any_cons, Bool.or_eq_true, List.any_eq_true] at h
        rcases h with h | ⟨m, hm, hpm⟩
        · exact h
        · rw [h1] at hm; simp only [List.nil_append] at hm; rw [h3 m hm] at hpm; cases hpm
      · exact ⟨y, by cases before <;> simp_all, hp⟩
    · refine ⟨[], x :: xs, rfl, by simp [insertBehind, h], ?_, .inl rfl⟩
      intro m hm
      simp only [List.any_eq_true, not_exists, not_and] at h
      exact Bool.eq_false_iff.mpr (h m hm)

/-- An insertion adds the entry and keeps the others. -/
theorem insertBehind_perm (p : SlotNo → Bool) (n : SlotNo) (l : List SlotNo) : (insertBehind p n l).Perm (n :: l) := by
  obtain ⟨b, a, h1, h2, -, -⟩ := insertBehind_spec p n l
  rw [h2, h1]; exact List.perm_middle

@[simp] theorem mem_insertBehind (p : SlotNo → Bool) (n m : SlotNo) (l : List SlotNo) : m ∈ insertBehind p n l ↔ m = n ∨ m ∈ l := by
  rw [(insertBehind_perm p n l).mem_iff, List.mem_cons]


end Sys2Proof.Machine
end

