-- ==== Sys2Proof/Laws/Firing.lean ====
section
/-! SUPPORT. Finishing, completing and executing an entry: what these operations do not touch, and the one move of the slot that each makes. -/

namespace Sys2Proof.Machine

open Sys2Proof


/-! The move a completion makes -/

/-- `t` is `s` after one move of slot `n`, whose tag and record are those of `sl`: freed, re-parked with rearm, held, or queued in phase LEAD. -/
def MovesOn (n : SlotNo) (sl : Slot) (s t : State) : Prop :=
  ∃ sl' : Slot, sl'.tag = sl.tag ∧ sl'.record = sl.record ∧ (sl'.occurrences ≤ Config.countMax ∨ sl'.occurrences = sl.occurrences) ∧
    (t = s.putFree n ∨ (sl.record.start.rearm = true ∧ t = s.putParked n sl') ∨ (∃ r : Resume, r ≠ .park ∧ t = s.putHeld n sl' r) ∨
      ∃ due : Tick, t = s.putQueued n sl' due .lead)

theorem finishSlot_moves (n : SlotNo) (sl : Slot) (su td : Bool) (s : State) : MovesOn n sl s (s.finishSlot n sl su td).1 := by
  unfold State.finishSlot
  split
  · exact ⟨sl, rfl, rfl, .inr rfl, .inr (.inr (.inl ⟨.atEnd, by simp, rfl⟩))⟩
  · dsimp only
    split
    · rename_i h; exact ⟨{ sl with repeats := sl.record.repeatsPosted }, rfl, rfl, .inr rfl, .inr (.inl ⟨h, rfl⟩)⟩
    · exact ⟨sl, rfl, rfl, .inr rfl, .inl rfl⟩

/-- A move told of a slot that differs in its counts alone is a move of the slot. -/
theorem MovesOn.of_counts {n : SlotNo} {sl sl1 : Slot} {s t : State} (h : MovesOn n sl1 s t) (ht : sl1.tag = sl.tag)
    (hr : sl1.record = sl.record) (ho : sl1.occurrences ≤ Config.countMax ∨ sl1.occurrences = sl.occurrences) : MovesOn n sl s t := by
  obtain ⟨sl', h1, h2, h3, h4⟩ := h
  refine ⟨sl', h1.trans ht, h2.trans hr, ?_, by rw [← hr]; exact h4⟩
  rcases h3 with h3 | h3
  · exact .inl h3
  · rw [h3]; exact ho

theorem nextOccurrence_moves (n : SlotNo) (sl : Slot) (su : Bool) (base : Tick) (p a : Nat) (s : State) :
    MovesOn n sl s (s.nextOccurrence n sl su base p a).1 := by
  have onward : ∀ (sl1 : Slot) (r : Resume) (due : Tick), sl1.tag = sl.tag → sl1.record = sl.record → sl1.occurrences = sl.occurrences → r ≠ .park →
      MovesOn n sl s (if su then s.putHeld n sl1 r else s.putQueued n sl1 due .lead) := by
    intro sl1 r due h1 h2 h3 hr
    refine ⟨sl1, h1, h2, .inr h3, ?_⟩
    cases su
    · exact .inr (.inr (.inr ⟨due, rfl⟩))
    · exact .inr (.inr (.inl ⟨r, hr, rfl⟩))
  unfold State.nextOccurrence
  simp only
  split
  · exact onward _ _ _ rfl rfl rfl (by simp)
  · split
    · exact onward _ _ _ rfl rfl rfl (by simp)
    · exact (finishSlot_moves n _ su true s).of_counts rfl rfl (.inr rfl)

theorem complete_moves (n : SlotNo) (sl : Slot) (su : Bool) (base : Tick) (s : State) : MovesOn n sl s (s.complete n sl su base).1 := by
  unfold State.complete
  simp only
  split
  · exact (finishSlot_moves n _ su true s).of_counts rfl rfl (.inl (by simp))
  · split
    · exact (finishSlot_moves n _ su true s).of_counts rfl rfl (.inl (by simp))
    · exact (nextOccurrence_moves n _ su base _ 0 s).of_counts rfl rfl (.inl (by simp))

theorem skipEntry_moves (n : SlotNo) (sl : Slot) (due : Tick) (s : State) : MovesOn n sl s (s.skipEntry n sl due).1 := by
  unfold State.skipEntry
  split
  · exact finishSlot_moves n sl false false s
  · simp only; split
    · exact (finishSlot_moves n _ false true s).of_counts rfl rfl (.inr rfl)
    · exact (nextOccurrence_moves n _ false due _ 1 s).of_counts rfl rfl (.inr rfl)

theorem MovesOn.time_eq {n : SlotNo} {sl : Slot} {s t : State} (h : MovesOn n sl s t) : t.time = s.time := by
  obtain ⟨_, _, _, _, rfl | ⟨_, rfl⟩ | ⟨_, _, rfl⟩ | ⟨_, rfl⟩⟩ := h <;> simp
theorem MovesOn.out_eq {n : SlotNo} {sl : Slot} {s t : State} (h : MovesOn n sl s t) : t.out = s.out := by
  obtain ⟨_, _, _, _, rfl | ⟨_, rfl⟩ | ⟨_, _, rfl⟩ | ⟨_, rfl⟩⟩ := h <;> simp
theorem MovesOn.chan_eq {n : SlotNo} {sl : Slot} {s t : State} (h : MovesOn n sl s t) : t.chan = s.chan := by
  obtain ⟨_, _, _, _, rfl | ⟨_, rfl⟩ | ⟨_, _, rfl⟩ | ⟨_, rfl⟩⟩ := h <;> simp
theorem MovesOn.sched_eq {n : SlotNo} {sl : Slot} {s t : State} (h : MovesOn n sl s t) : t.sched = s.sched := by
  obtain ⟨_, _, _, _, rfl | ⟨_, rfl⟩ | ⟨_, _, rfl⟩ | ⟨_, rfl⟩⟩ := h <;> simp
theorem MovesOn.engine_eq {n : SlotNo} {sl : Slot} {s t : State} (h : MovesOn n sl s t) : t.engine = s.engine := by
  obtain ⟨_, _, _, _, rfl | ⟨_, rfl⟩ | ⟨_, _, rfl⟩ | ⟨_, rfl⟩⟩ := h <;> simp
theorem MovesOn.notes_eq {n : SlotNo} {sl : Slot} {s t : State} (h : MovesOn n sl s t) : t.notes = s.notes := by
  obtain ⟨_, _, _, _, rfl | ⟨_, rfl⟩ | ⟨_, _, rfl⟩ | ⟨_, rfl⟩⟩ := h <;> simp
theorem MovesOn.pins_eq {n : SlotNo} {sl : Slot} {s t : State} (h : MovesOn n sl s t) : t.pins = s.pins := by
  obtain ⟨_, _, _, _, rfl | ⟨_, rfl⟩ | ⟨_, _, rfl⟩ | ⟨_, rfl⟩⟩ := h <;> simp
theorem MovesOn.lastRead_eq {n : SlotNo} {sl : Slot} {s t : State} (h : MovesOn n sl s t) : t.lastRead = s.lastRead := by
  obtain ⟨_, _, _, _, rfl | ⟨_, rfl⟩ | ⟨_, _, rfl⟩ | ⟨_, rfl⟩⟩ := h <;> simp
theorem MovesOn.pending_eq {n : SlotNo} {sl : Slot} {s t : State} (h : MovesOn n sl s t) : t.pending = s.pending := by
  obtain ⟨_, _, _, _, rfl | ⟨_, rfl⟩ | ⟨_, _, rfl⟩ | ⟨_, rfl⟩⟩ := h <;> simp
theorem MovesOn.flight_eq {n : SlotNo} {sl : Slot} {s t : State} (h : MovesOn n sl s t) : t.flight = s.flight := by
  obtain ⟨_, _, _, _, rfl | ⟨_, rfl⟩ | ⟨_, _, rfl⟩ | ⟨_, rfl⟩⟩ := h <;> simp
theorem MovesOn.unit_eq {n : SlotNo} {sl : Slot} {s t : State} (h : MovesOn n sl s t) : t.fire.unit = s.fire.unit := by
  obtain ⟨_, _, _, _, rfl | ⟨_, rfl⟩ | ⟨_, _, rfl⟩ | ⟨_, rfl⟩⟩ := h <;> simp
theorem MovesOn.cap_lines_eq {n : SlotNo} {sl : Slot} {s t : State} (h : MovesOn n sl s t) : t.cap.lines = s.cap.lines := by
  obtain ⟨_, _, _, _, rfl | ⟨_, rfl⟩ | ⟨_, _, rfl⟩ | ⟨_, rfl⟩⟩ := h <;> simp
theorem MovesOn.cap_log_eq {n : SlotNo} {sl : Slot} {s t : State} (h : MovesOn n sl s t) : t.cap.log = s.cap.log := by
  obtain ⟨_, _, _, _, rfl | ⟨_, rfl⟩ | ⟨_, _, rfl⟩ | ⟨_, rfl⟩⟩ := h <;> simp
theorem MovesOn.cap_clost_eq {n : SlotNo} {sl : Slot} {s t : State} (h : MovesOn n sl s t) : t.cap.clost = s.cap.clost := by
  obtain ⟨_, _, _, _, rfl | ⟨_, rfl⟩ | ⟨_, _, rfl⟩ | ⟨_, rfl⟩⟩ := h <;> simp
theorem MovesOn.cap_gapPending_eq {n : SlotNo} {sl : Slot} {s t : State} (h : MovesOn n sl s t) : t.cap.gapPending = s.cap.gapPending := by
  obtain ⟨_, _, _, _, rfl | ⟨_, rfl⟩ | ⟨_, _, rfl⟩ | ⟨_, rfl⟩⟩ := h <;> simp

/-! `finishSlot`: what it does not touch -/

@[simp] theorem finishSlot_time (n : SlotNo) (sl : Slot) (su td : Bool) (s : State) : (s.finishSlot n sl su td).1.time = s.time := (finishSlot_moves n sl su td s).time_eq
@[simp] theorem finishSlot_out (n : SlotNo) (sl : Slot) (su td : Bool) (s : State) : (s.finishSlot n sl su td).1.out = s.out := (finishSlot_moves n sl su td s).out_eq
@[simp] theorem finishSlot_chan (n : SlotNo) (sl : Slot) (su td : Bool) (s : State) : (s.finishSlot n sl su td).1.chan = s.chan := (finishSlot_moves n sl su td s).chan_eq
@[simp] theorem finishSlot_sched (n : SlotNo) (sl : Slot) (su td : Bool) (s : State) : (s.finishSlot n sl su td).1.sched = s.sched := (finishSlot_moves n sl su td s).sched_eq
@[simp] theorem finishSlot_engine (n : SlotNo) (sl : Slot) (su td : Bool) (s : State) : (s.finishSlot n sl su td).1.engine = s.engine := (finishSlot_moves n sl su td s).engine_eq
@[simp] theorem finishSlot_notes (n : SlotNo) (sl : Slot) (su td : Bool) (s : State) : (s.finishSlot n sl su td).1.notes = s.notes := (finishSlot_moves n sl su td s).notes_eq
@[simp] theorem finishSlot_pins (n : SlotNo) (sl : Slot) (su td : Bool) (s : State) : (s.finishSlot n sl su td).1.pins = s.pins := (finishSlot_moves n sl su td s).pins_eq
@[simp] theorem finishSlot_lastRead (n : SlotNo) (sl : Slot) (su td : Bool) (s : State) : (s.finishSlot n sl su td).1.lastRead = s.lastRead := (finishSlot_moves n sl su td s).lastRead_eq
@[simp] theorem finishSlot_pending (n : SlotNo) (sl : Slot) (su td : Bool) (s : State) : (s.finishSlot n sl su td).1.pending = s.pending := (finishSlot_moves n sl su td s).pending_eq
@[simp] theorem finishSlot_flight (n : SlotNo) (sl : Slot) (su td : Bool) (s : State) : (s.finishSlot n sl su td).1.flight = s.flight := (finishSlot_moves n sl su td s).flight_eq
@[simp] theorem finishSlot_unit (n : SlotNo) (sl : Slot) (su td : Bool) (s : State) : (s.finishSlot n sl su td).1.fire.unit = s.fire.unit := (finishSlot_moves n sl su td s).unit_eq
@[simp] theorem finishSlot_cap_lines (n : SlotNo) (sl : Slot) (su td : Bool) (s : State) : (s.finishSlot n sl su td).1.cap.lines = s.cap.lines := (finishSlot_moves n sl su td s).cap_lines_eq
@[simp] theorem finishSlot_cap_log (n : SlotNo) (sl : Slot) (su td : Bool) (s : State) : (s.finishSlot n sl su td).1.cap.log = s.cap.log := (finishSlot_moves n sl su td s).cap_log_eq
@[simp] theorem finishSlot_cap_clost (n : SlotNo) (sl : Slot) (su td : Bool) (s : State) : (s.finishSlot n sl su td).1.cap.clost = s.cap.clost := (finishSlot_moves n sl su td s).cap_clost_eq
@[simp] theorem finishSlot_cap_gapPending (n : SlotNo) (sl : Slot) (su td : Bool) (s : State) : (s.finishSlot n sl su td).1.cap.gapPending = s.cap.gapPending := (finishSlot_moves n sl su td s).cap_gapPending_eq

/-! `nextOccurrence`: what it does not touch -/

@[simp] theorem nextOccurrence_time (n : SlotNo) (sl : Slot) (su : Bool) (base : Tick) (p a : Nat) (s : State) : (s.nextOccurrence n sl su base p a).1.time = s.time := (nextOccurrence_moves n sl su base p a s).time_eq
@[simp] theorem nextOccurrence_out (n : SlotNo) (sl : Slot) (su : Bool) (base : Tick) (p a : Nat) (s : State) : (s.nextOccurrence n sl su base p a).1.out = s.out := (nextOccurrence_moves n sl su base p a s).out_eq
@[simp] theorem nextOccurrence_chan (n : SlotNo) (sl : Slot) (su : Bool) (base : Tick) (p a : Nat) (s : State) : (s.nextOccurrence n sl su base p a).1.chan = s.chan := (nextOccurrence_moves n sl su base p a s).chan_eq
@[simp] theorem nextOccurrence_sched (n : SlotNo) (sl : Slot) (su : Bool) (base : Tick) (p a : Nat) (s : State) : (s.nextOccurrence n sl su base p a).1.sched = s.sched := (nextOccurrence_moves n sl su base p a s).sched_eq
@[simp] theorem nextOccurrence_engine (n : SlotNo) (sl : Slot) (su : Bool) (base : Tick) (p a : Nat) (s : State) : (s.nextOccurrence n sl su base p a).1.engine = s.engine := (nextOccurrence_moves n sl su base p a s).engine_eq
@[simp] theorem nextOccurrence_notes (n : SlotNo) (sl : Slot) (su : Bool) (base : Tick) (p a : Nat) (s : State) : (s.nextOccurrence n sl su base p a).1.notes = s.notes := (nextOccurrence_moves n sl su base p a s).notes_eq
@[simp] theorem nextOccurrence_pins (n : SlotNo) (sl : Slot) (su : Bool) (base : Tick) (p a : Nat) (s : State) : (s.nextOccurrence n sl su base p a).1.pins = s.pins := (nextOccurrence_moves n sl su base p a s).pins_eq
@[simp] theorem nextOccurrence_lastRead (n : SlotNo) (sl : Slot) (su : Bool) (base : Tick) (p a : Nat) (s : State) : (s.nextOccurrence n sl su base p a).1.lastRead = s.lastRead := (nextOccurrence_moves n sl su base p a s).lastRead_eq
@[simp] theorem nextOccurrence_pending (n : SlotNo) (sl : Slot) (su : Bool) (base : Tick) (p a : Nat) (s : State) : (s.nextOccurrence n sl su base p a).1.pending = s.pending := (nextOccurrence_moves n sl su base p a s).pending_eq
@[simp] theorem nextOccurrence_flight (n : SlotNo) (sl : Slot) (su : Bool) (base : Tick) (p a : Nat) (s : State) : (s.nextOccurrence n sl su base p a).1.flight = s.flight := (nextOccurrence_moves n sl su base p a s).flight_eq
@[simp] theorem nextOccurrence_unit (n : SlotNo) (sl : Slot) (su : Bool) (base : Tick) (p a : Nat) (s : State) : (s.nextOccurrence n sl su base p a).1.fire.unit = s.fire.unit := (nextOccurrence_moves n sl su base p a s).unit_eq
@[simp] theorem nextOccurrence_cap_lines (n : SlotNo) (sl : Slot) (su : Bool) (base : Tick) (p a : Nat) (s : State) : (s.nextOccurrence n sl su base p a).1.cap.lines = s.cap.lines := (nextOccurrence_moves n sl su base p a s).cap_lines_eq
@[simp] theorem nextOccurrence_cap_log (n : SlotNo) (sl : Slot) (su : Bool) (base : Tick) (p a : Nat) (s : State) : (s.nextOccurrence n sl su base p a).1.cap.log = s.cap.log := (nextOccurrence_moves n sl su base p a s).cap_log_eq
@[simp] theorem nextOccurrence_cap_clost (n : SlotNo) (sl : Slot) (su : Bool) (base : Tick) (p a : Nat) (s : State) : (s.nextOccurrence n sl su base p a).1.cap.clost = s.cap.clost := (nextOccurrence_moves n sl su base p a s).cap_clost_eq
@[simp] theorem nextOccurrence_cap_gapPending (n : SlotNo) (sl : Slot) (su : Bool) (base : Tick) (p a : Nat) (s : State) : (s.nextOccurrence n sl su base p a).1.cap.gapPending = s.cap.gapPending := (nextOccurrence_moves n sl su base p a s).cap_gapPending_eq

/-! `complete`: what it does not touch -/

@[simp] theorem complete_time (n : SlotNo) (sl : Slot) (su : Bool) (base : Tick) (s : State) : (s.complete n sl su base).1.time = s.time := (complete_moves n sl su base s).time_eq
@[simp] theorem complete_out (n : SlotNo) (sl : Slot) (su : Bool) (base : Tick) (s : State) : (s.complete n sl su base).1.out = s.out := (complete_moves n sl su base s).out_eq
@[simp] theorem complete_chan (n : SlotNo) (sl : Slot) (su : Bool) (base : Tick) (s : State) : (s.complete n sl su base).1.chan = s.chan := (complete_moves n sl su base s).chan_eq
@[simp] theorem complete_sched (n : SlotNo) (sl : Slot) (su : Bool) (base : Tick) (s : State) : (s.complete n sl su base).1.sched = s.sched := (complete_moves n sl su base s).sched_eq
@[simp] theorem complete_engine (n : SlotNo) (sl : Slot) (su : Bool) (base : Tick) (s : State) : (s.complete n sl su base).1.engine = s.engine := (complete_moves n sl su base s).engine_eq
@[simp] theorem complete_notes (n : SlotNo) (sl : Slot) (su : Bool) (base : Tick) (s : State) : (s.complete n sl su base).1.notes = s.notes := (complete_moves n sl su base s).notes_eq
@[simp] theorem complete_pins (n : SlotNo) (sl : Slot) (su : Bool) (base : Tick) (s : State) : (s.complete n sl su base).1.pins = s.pins := (complete_moves n sl su base s).pins_eq
@[simp] theorem complete_lastRead (n : SlotNo) (sl : Slot) (su : Bool) (base : Tick) (s : State) : (s.complete n sl su base).1.lastRead = s.lastRead := (complete_moves n sl su base s).lastRead_eq
@[simp] theorem complete_pending (n : SlotNo) (sl : Slot) (su : Bool) (base : Tick) (s : State) : (s.complete n sl su base).1.pending = s.pending := (complete_moves n sl su base s).pending_eq
@[simp] theorem complete_flight (n : SlotNo) (sl : Slot) (su : Bool) (base : Tick) (s : State) : (s.complete n sl su base).1.flight = s.flight := (complete_moves n sl su base s).flight_eq
@[simp] theorem complete_unit (n : SlotNo) (sl : Slot) (su : Bool) (base : Tick) (s : State) : (s.complete n sl su base).1.fire.unit = s.fire.unit := (complete_moves n sl su base s).unit_eq
@[simp] theorem complete_cap_lines (n : SlotNo) (sl : Slot) (su : Bool) (base : Tick) (s : State) : (s.complete n sl su base).1.cap.lines = s.cap.lines := (complete_moves n sl su base s).cap_lines_eq
@[simp] theorem complete_cap_log (n : SlotNo) (sl : Slot) (su : Bool) (base : Tick) (s : State) : (s.complete n sl su base).1.cap.log = s.cap.log := (complete_moves n sl su base s).cap_log_eq
@[simp] theorem complete_cap_clost (n : SlotNo) (sl : Slot) (su : Bool) (base : Tick) (s : State) : (s.complete n sl su base).1.cap.clost = s.cap.clost := (complete_moves n sl su base s).cap_clost_eq
@[simp] theorem complete_cap_gapPending (n : SlotNo) (sl : Slot) (su : Bool) (base : Tick) (s : State) : (s.complete n sl su base).1.cap.gapPending = s.cap.gapPending := (complete_moves n sl su base s).cap_gapPending_eq

/-! `skipEntry`: what it does not touch -/

@[simp] theorem skipEntry_time (n : SlotNo) (sl : Slot) (due : Tick) (s : State) : (s.skipEntry n sl due).1.time = s.time := (skipEntry_moves n sl due s).time_eq
@[simp] theorem skipEntry_out (n : SlotNo) (sl : Slot) (due : Tick) (s : State) : (s.skipEntry n sl due).1.out = s.out := (skipEntry_moves n sl due s).out_eq
@[simp] theorem skipEntry_chan (n : SlotNo) (sl : Slot) (due : Tick) (s : State) : (s.skipEntry n sl due).1.chan = s.chan := (skipEntry_moves n sl due s).chan_eq
@[simp] theorem skipEntry_sched (n : SlotNo) (sl : Slot) (due : Tick) (s : State) : (s.skipEntry n sl due).1.sched = s.sched := (skipEntry_moves n sl due s).sched_eq
@[simp] theorem skipEntry_engine (n : SlotNo) (sl : Slot) (due : Tick) (s : State) : (s.skipEntry n sl due).1.engine = s.engine := (skipEntry_moves n sl due s).engine_eq
@[simp] theorem skipEntry_notes (n : SlotNo) (sl : Slot) (due : Tick) (s : State) : (s.skipEntry n sl due).1.notes = s.notes := (skipEntry_moves n sl due s).notes_eq
@[simp] theorem skipEntry_pins (n : SlotNo) (sl : Slot) (due : Tick) (s : State) : (s.skipEntry n sl due).1.pins = s.pins := (skipEntry_moves n sl due s).pins_eq
@[simp] theorem skipEntry_lastRead (n : SlotNo) (sl : Slot) (due : Tick) (s : State) : (s.skipEntry n sl due).1.lastRead = s.lastRead := (skipEntry_moves n sl due s).lastRead_eq
@[simp] theorem skipEntry_pending (n : SlotNo) (sl : Slot) (due : Tick) (s : State) : (s.skipEntry n sl due).1.pending = s.pending := (skipEntry_moves n sl due s).pending_eq
@[simp] theorem skipEntry_flight (n : SlotNo) (sl : Slot) (due : Tick) (s : State) : (s.skipEntry n sl due).1.flight = s.flight := (skipEntry_moves n sl due s).flight_eq
@[simp] theorem skipEntry_unit (n : SlotNo) (sl : Slot) (due : Tick) (s : State) : (s.skipEntry n sl due).1.fire.unit = s.fire.unit := (skipEntry_moves n sl due s).unit_eq
@[simp] theorem skipEntry_cap_lines (n : SlotNo) (sl : Slot) (due : Tick) (s : State) : (s.skipEntry n sl due).1.cap.lines = s.cap.lines := (skipEntry_moves n sl due s).cap_lines_eq
@[simp] theorem skipEntry_cap_log (n : SlotNo) (sl : Slot) (due : Tick) (s : State) : (s.skipEntry n sl due).1.cap.log = s.cap.log := (skipEntry_moves n sl due s).cap_log_eq
@[simp] theorem skipEntry_cap_clost (n : SlotNo) (sl : Slot) (due : Tick) (s : State) : (s.skipEntry n sl due).1.cap.clost = s.cap.clost := (skipEntry_moves n sl due s).cap_clost_eq
@[simp] theorem skipEntry_cap_gapPending (n : SlotNo) (sl : Slot) (due : Tick) (s : State) : (s.skipEntry n sl due).1.cap.gapPending = s.cap.gapPending := (skipEntry_moves n sl due s).cap_gapPending_eq

/-! `handAction`: it touches the hand-offs alone -/

@[simp] theorem handAction_time (n : SlotNo) (sl : Slot) (s : State) : (s.handAction n sl).time = s.time := by
  unfold State.handAction; (repeat' split) <;> rfl
@[simp] theorem handAction_slots (n : SlotNo) (sl : Slot) (s : State) : (s.handAction n sl).slots = s.slots := by
  unfold State.handAction; (repeat' split) <;> rfl
@[simp] theorem handAction_fire (n : SlotNo) (sl : Slot) (s : State) : (s.handAction n sl).fire = s.fire := by
  unfold State.handAction; (repeat' split) <;> rfl
@[simp] theorem handAction_out (n : SlotNo) (sl : Slot) (s : State) : (s.handAction n sl).out = s.out := by
  unfold State.handAction; (repeat' split) <;> rfl
@[simp] theorem handAction_cap (n : SlotNo) (sl : Slot) (s : State) : (s.handAction n sl).cap = s.cap := by
  unfold State.handAction; (repeat' split) <;> rfl
@[simp] theorem handAction_chan (n : SlotNo) (sl : Slot) (s : State) : (s.handAction n sl).chan = s.chan := by
  unfold State.handAction; (repeat' split) <;> rfl
@[simp] theorem handAction_sched (n : SlotNo) (sl : Slot) (s : State) : (s.handAction n sl).sched = s.sched := by
  unfold State.handAction; (repeat' split) <;> rfl
@[simp] theorem handAction_engine (n : SlotNo) (sl : Slot) (s : State) : (s.handAction n sl).engine = s.engine := by
  unfold State.handAction; (repeat' split) <;> rfl
@[simp] theorem handAction_notes (n : SlotNo) (sl : Slot) (s : State) : (s.handAction n sl).notes = s.notes := by
  unfold State.handAction; (repeat' split) <;> rfl
@[simp] theorem handAction_pins (n : SlotNo) (sl : Slot) (s : State) : (s.handAction n sl).pins = s.pins := by
  unfold State.handAction; (repeat' split) <;> rfl
@[simp] theorem handAction_lastRead (n : SlotNo) (sl : Slot) (s : State) : (s.handAction n sl).lastRead = s.lastRead := by
  unfold State.handAction; (repeat' split) <;> rfl
@[simp] theorem handAction_pending (n : SlotNo) (sl : Slot) (s : State) : (s.handAction n sl).pending = s.pending := by
  unfold State.handAction; (repeat' split) <;> rfl

/-! `executeLead`: what it does not touch -/

@[simp] theorem executeLead_time (n : SlotNo) (sl : Slot) (due : Tick) (late : Bool) (s : State) : (s.executeLead n sl due late).1.time = s.time := by
  unfold State.executeLead; cases sl.record.action <;> simp
@[simp] theorem executeLead_out (n : SlotNo) (sl : Slot) (due : Tick) (late : Bool) (s : State) : (s.executeLead n sl due late).1.out = s.out := by
  unfold State.executeLead; cases sl.record.action <;> simp
@[simp] theorem executeLead_chan (n : SlotNo) (sl : Slot) (due : Tick) (late : Bool) (s : State) : (s.executeLead n sl due late).1.chan = s.chan := by
  unfold State.executeLead; cases sl.record.action <;> simp
@[simp] theorem executeLead_sched (n : SlotNo) (sl : Slot) (due : Tick) (late : Bool) (s : State) : (s.executeLead n sl due late).1.sched = s.sched := by
  unfold State.executeLead; cases sl.record.action <;> simp
@[simp] theorem executeLead_engine (n : SlotNo) (sl : Slot) (due : Tick) (late : Bool) (s : State) : (s.executeLead n sl due late).1.engine = s.engine := by
  unfold State.executeLead; cases sl.record.action <;> simp
@[simp] theorem executeLead_notes (n : SlotNo) (sl : Slot) (due : Tick) (late : Bool) (s : State) : (s.executeLead n sl due late).1.notes = s.notes := by
  unfold State.executeLead; cases sl.record.action <;> simp
@[simp] theorem executeLead_pins (n : SlotNo) (sl : Slot) (due : Tick) (late : Bool) (s : State) : (s.executeLead n sl due late).1.pins = s.pins := by
  unfold State.executeLead; cases sl.record.action <;> simp
@[simp] theorem executeLead_lastRead (n : SlotNo) (sl : Slot) (due : Tick) (late : Bool) (s : State) : (s.executeLead n sl due late).1.lastRead = s.lastRead := by
  unfold State.executeLead; cases sl.record.action <;> simp
@[simp] theorem executeLead_pending (n : SlotNo) (sl : Slot) (due : Tick) (late : Bool) (s : State) : (s.executeLead n sl due late).1.pending = s.pending := by
  unfold State.executeLead; cases sl.record.action <;> simp
@[simp] theorem executeLead_unit (n : SlotNo) (sl : Slot) (due : Tick) (late : Bool) (s : State) : (s.executeLead n sl due late).1.fire.unit = s.fire.unit := by
  unfold State.executeLead; cases sl.record.action <;> simp
@[simp] theorem executeLead_cap_lines (n : SlotNo) (sl : Slot) (due : Tick) (late : Bool) (s : State) : (s.executeLead n sl due late).1.cap.lines = s.cap.lines := by
  unfold State.executeLead; cases sl.record.action <;> simp
@[simp] theorem executeLead_cap_log (n : SlotNo) (sl : Slot) (due : Tick) (late : Bool) (s : State) : (s.executeLead n sl due late).1.cap.log = s.cap.log := by
  unfold State.executeLead; cases sl.record.action <;> simp
@[simp] theorem executeLead_cap_clost (n : SlotNo) (sl : Slot) (due : Tick) (late : Bool) (s : State) : (s.executeLead n sl due late).1.cap.clost = s.cap.clost := by
  unfold State.executeLead; cases sl.record.action <;> simp
@[simp] theorem executeLead_cap_gapPending (n : SlotNo) (sl : Slot) (due : Tick) (late : Bool) (s : State) : (s.executeLead n sl due late).1.cap.gapPending = s.cap.gapPending := by
  unfold State.executeLead; cases sl.record.action <;> simp

/-! `takeLead`: what it does not touch -/

@[simp] theorem takeLead_time (n : SlotNo) (sl : Slot) (due : Tick) (late : Bool) (s : State) : (s.takeLead n sl due late).1.time = s.time := by
  unfold State.takeLead; split <;> simp
@[simp] theorem takeLead_out (n : SlotNo) (sl : Slot) (due : Tick) (late : Bool) (s : State) : (s.takeLead n sl due late).1.out = s.out := by
  unfold State.takeLead; split <;> simp
@[simp] theorem takeLead_chan (n : SlotNo) (sl : Slot) (due : Tick) (late : Bool) (s : State) : (s.takeLead n sl due late).1.chan = s.chan := by
  unfold State.takeLead; split <;> simp
@[simp] theorem takeLead_sched (n : SlotNo) (sl : Slot) (due : Tick) (late : Bool) (s : State) : (s.takeLead n sl due late).1.sched = s.sched := by
  unfold State.takeLead; split <;> simp
@[simp] theorem takeLead_engine (n : SlotNo) (sl : Slot) (due : Tick) (late : Bool) (s : State) : (s.takeLead n sl due late).1.engine = s.engine := by
  unfold State.takeLead; split <;> simp
@[simp] theorem takeLead_notes (n : SlotNo) (sl : Slot) (due : Tick) (late : Bool) (s : State) : (s.takeLead n sl due late).1.notes = s.notes := by
  unfold State.takeLead; split <;> simp
@[simp] theorem takeLead_pins (n : SlotNo) (sl : Slot) (due : Tick) (late : Bool) (s : State) : (s.takeLead n sl due late).1.pins = s.pins := by
  unfold State.takeLead; split <;> simp
@[simp] theorem takeLead_lastRead (n : SlotNo) (sl : Slot) (due : Tick) (late : Bool) (s : State) : (s.takeLead n sl due late).1.lastRead = s.lastRead := by
  unfold State.takeLead; split <;> simp
@[simp] theorem takeLead_pending (n : SlotNo) (sl : Slot) (due : Tick) (late : Bool) (s : State) : (s.takeLead n sl due late).1.pending = s.pending := by
  unfold State.takeLead; split <;> simp
@[simp] theorem takeLead_unit (n : SlotNo) (sl : Slot) (due : Tick) (late : Bool) (s : State) : (s.takeLead n sl due late).1.fire.unit = s.fire.unit := by
  unfold State.takeLead; split <;> simp
@[simp] theorem takeLead_cap_lines (n : SlotNo) (sl : Slot) (due : Tick) (late : Bool) (s : State) : (s.takeLead n sl due late).1.cap.lines = s.cap.lines := by
  unfold State.takeLead; split <;> simp
@[simp] theorem takeLead_cap_log (n : SlotNo) (sl : Slot) (due : Tick) (late : Bool) (s : State) : (s.takeLead n sl due late).1.cap.log = s.cap.log := by
  unfold State.takeLead; split <;> simp
@[simp] theorem takeLead_cap_clost (n : SlotNo) (sl : Slot) (due : Tick) (late : Bool) (s : State) : (s.takeLead n sl due late).1.cap.clost = s.cap.clost := by
  unfold State.takeLead; split <;> simp
@[simp] theorem takeLead_cap_gapPending (n : SlotNo) (sl : Slot) (due : Tick) (late : Bool) (s : State) : (s.takeLead n sl due late).1.cap.gapPending = s.cap.gapPending := by
  unfold State.takeLead; split <;> simp

/-! `takeTrail`: what it does not touch -/

@[simp] theorem takeTrail_time (n : SlotNo) (sl : Slot) (due ld : Tick) (su : Bool) (s : State) : (s.takeTrail n sl due ld su).1.time = s.time := by
  unfold State.takeTrail; cases sl.record.action <;> simp
@[simp] theorem takeTrail_out (n : SlotNo) (sl : Slot) (due ld : Tick) (su : Bool) (s : State) : (s.takeTrail n sl due ld su).1.out = s.out := by
  unfold State.takeTrail; cases sl.record.action <;> simp
@[simp] theorem takeTrail_chan (n : SlotNo) (sl : Slot) (due ld : Tick) (su : Bool) (s : State) : (s.takeTrail n sl due ld su).1.chan = s.chan := by
  unfold State.takeTrail; cases sl.record.action <;> simp
@[simp] theorem takeTrail_sched (n : SlotNo) (sl : Slot) (due ld : Tick) (su : Bool) (s : State) : (s.takeTrail n sl due ld su).1.sched = s.sched := by
  unfold State.takeTrail; cases sl.record.action <;> simp
@[simp] theorem takeTrail_engine (n : SlotNo) (sl : Slot) (due ld : Tick) (su : Bool) (s : State) : (s.takeTrail n sl due ld su).1.engine = s.engine := by
  unfold State.takeTrail; cases sl.record.action <;> simp
@[simp] theorem takeTrail_notes (n : SlotNo) (sl : Slot) (due ld : Tick) (su : Bool) (s : State) : (s.takeTrail n sl due ld su).1.notes = s.notes := by
  unfold State.takeTrail; cases sl.record.action <;> simp
@[simp] theorem takeTrail_pins (n : SlotNo) (sl : Slot) (due ld : Tick) (su : Bool) (s : State) : (s.takeTrail n sl due ld su).1.pins = s.pins := by
  unfold State.takeTrail; cases sl.record.action <;> simp
@[simp] theorem takeTrail_lastRead (n : SlotNo) (sl : Slot) (due ld : Tick) (su : Bool) (s : State) : (s.takeTrail n sl due ld su).1.lastRead = s.lastRead := by
  unfold State.takeTrail; cases sl.record.action <;> simp
@[simp] theorem takeTrail_pending (n : SlotNo) (sl : Slot) (due ld : Tick) (su : Bool) (s : State) : (s.takeTrail n sl due ld su).1.pending = s.pending := by
  unfold State.takeTrail; cases sl.record.action <;> simp
@[simp] theorem takeTrail_unit (n : SlotNo) (sl : Slot) (due ld : Tick) (su : Bool) (s : State) : (s.takeTrail n sl due ld su).1.fire.unit = s.fire.unit := by
  unfold State.takeTrail; cases sl.record.action <;> simp
@[simp] theorem takeTrail_cap_lines (n : SlotNo) (sl : Slot) (due ld : Tick) (su : Bool) (s : State) : (s.takeTrail n sl due ld su).1.cap.lines = s.cap.lines := by
  unfold State.takeTrail; cases sl.record.action <;> simp
@[simp] theorem takeTrail_cap_log (n : SlotNo) (sl : Slot) (due ld : Tick) (su : Bool) (s : State) : (s.takeTrail n sl due ld su).1.cap.log = s.cap.log := by
  unfold State.takeTrail; cases sl.record.action <;> simp
@[simp] theorem takeTrail_cap_clost (n : SlotNo) (sl : Slot) (due ld : Tick) (su : Bool) (s : State) : (s.takeTrail n sl due ld su).1.cap.clost = s.cap.clost := by
  unfold State.takeTrail; cases sl.record.action <;> simp
@[simp] theorem takeTrail_cap_gapPending (n : SlotNo) (sl : Slot) (due ld : Tick) (su : Bool) (s : State) : (s.takeTrail n sl due ld su).1.cap.gapPending = s.cap.gapPending := by
  unfold State.takeTrail; cases sl.record.action <;> simp

/-! `convertTrail`: what it does not touch -/

@[simp] theorem convertTrail_time (n : SlotNo) (s : State) : (s.convertTrail n).1.time = s.time := by
  unfold State.convertTrail; dsimp only; split <;> (try split) <;> simp
@[simp] theorem convertTrail_out (n : SlotNo) (s : State) : (s.convertTrail n).1.out = s.out := by
  unfold State.convertTrail; dsimp only; split <;> (try split) <;> simp
@[simp] theorem convertTrail_chan (n : SlotNo) (s : State) : (s.convertTrail n).1.chan = s.chan := by
  unfold State.convertTrail; dsimp only; split <;> (try split) <;> simp
@[simp] theorem convertTrail_sched (n : SlotNo) (s : State) : (s.convertTrail n).1.sched = s.sched := by
  unfold State.convertTrail; dsimp only; split <;> (try split) <;> simp
@[simp] theorem convertTrail_engine (n : SlotNo) (s : State) : (s.convertTrail n).1.engine = s.engine := by
  unfold State.convertTrail; dsimp only; split <;> (try split) <;> simp
@[simp] theorem convertTrail_notes (n : SlotNo) (s : State) : (s.convertTrail n).1.notes = s.notes := by
  unfold State.convertTrail; dsimp only; split <;> (try split) <;> simp
@[simp] theorem convertTrail_pins (n : SlotNo) (s : State) : (s.convertTrail n).1.pins = s.pins := by
  unfold State.convertTrail; dsimp only; split <;> (try split) <;> simp
@[simp] theorem convertTrail_lastRead (n : SlotNo) (s : State) : (s.convertTrail n).1.lastRead = s.lastRead := by
  unfold State.convertTrail; dsimp only; split <;> (try split) <;> simp
@[simp] theorem convertTrail_pending (n : SlotNo) (s : State) : (s.convertTrail n).1.pending = s.pending := by
  unfold State.convertTrail; dsimp only; split <;> (try split) <;> simp
@[simp] theorem convertTrail_flight (n : SlotNo) (s : State) : (s.convertTrail n).1.flight = s.flight := by
  unfold State.convertTrail; dsimp only; split <;> (try split) <;> simp
@[simp] theorem convertTrail_unit (n : SlotNo) (s : State) : (s.convertTrail n).1.fire.unit = s.fire.unit := by
  unfold State.convertTrail; dsimp only; split <;> (try split) <;> simp
@[simp] theorem convertTrail_cap_lines (n : SlotNo) (s : State) : (s.convertTrail n).1.cap.lines = s.cap.lines := by
  unfold State.convertTrail; dsimp only; split <;> (try split) <;> simp
@[simp] theorem convertTrail_cap_log (n : SlotNo) (s : State) : (s.convertTrail n).1.cap.log = s.cap.log := by
  unfold State.convertTrail; dsimp only; split <;> (try split) <;> simp
@[simp] theorem convertTrail_cap_clost (n : SlotNo) (s : State) : (s.convertTrail n).1.cap.clost = s.cap.clost := by
  unfold State.convertTrail; dsimp only; split <;> (try split) <;> simp
@[simp] theorem convertTrail_cap_gapPending (n : SlotNo) (s : State) : (s.convertTrail n).1.cap.gapPending = s.cap.gapPending := by
  unfold State.convertTrail; dsimp only; split <;> (try split) <;> simp

/-- What one conversion keeps, the conversion of all keeps (R131). -/
theorem convertTrails_keeps {α : Type} (f : State → α) (hf : ∀ (s : State) (n : SlotNo), f (s.convertTrail n).1 = f s) (s : State) :
    f s.convertTrails.1 = f s := by
  unfold State.convertTrails
  generalize (s.fire.dueQueue.filter fun n => s.slots[n].isTrail) = l
  suffices h : ∀ (l : List SlotNo) (acc : State × List Notice),
      f (l.foldl (fun (acc : State × List Notice) n => ((acc.1.convertTrail n).1, acc.2 ++ (acc.1.convertTrail n).2)) acc).1 = f acc.1 from
    h l (s, [])
  intro l
  induction l with
  | nil => intro acc; rfl
  | cons n l ih => intro acc; rw [List.foldl_cons, ih]; exact hf acc.1 n

@[simp] theorem convertTrails_time (s : State) : s.convertTrails.1.time = s.time := convertTrails_keeps (·.time) (fun s n => convertTrail_time n s) s
@[simp] theorem convertTrails_out (s : State) : s.convertTrails.1.out = s.out := convertTrails_keeps (·.out) (fun s n => convertTrail_out n s) s
@[simp] theorem convertTrails_chan (s : State) : s.convertTrails.1.chan = s.chan := convertTrails_keeps (·.chan) (fun s n => convertTrail_chan n s) s
@[simp] theorem convertTrails_sched (s : State) : s.convertTrails.1.sched = s.sched := convertTrails_keeps (·.sched) (fun s n => convertTrail_sched n s) s
@[simp] theorem convertTrails_engine (s : State) : s.convertTrails.1.engine = s.engine := convertTrails_keeps (·.engine) (fun s n => convertTrail_engine n s) s
@[simp] theorem convertTrails_notes (s : State) : s.convertTrails.1.notes = s.notes := convertTrails_keeps (·.notes) (fun s n => convertTrail_notes n s) s
@[simp] theorem convertTrails_pins (s : State) : s.convertTrails.1.pins = s.pins := convertTrails_keeps (·.pins) (fun s n => convertTrail_pins n s) s
@[simp] theorem convertTrails_lastRead (s : State) : s.convertTrails.1.lastRead = s.lastRead := convertTrails_keeps (·.lastRead) (fun s n => convertTrail_lastRead n s) s
@[simp] theorem convertTrails_pending (s : State) : s.convertTrails.1.pending = s.pending := convertTrails_keeps (·.pending) (fun s n => convertTrail_pending n s) s
@[simp] theorem convertTrails_flight (s : State) : s.convertTrails.1.flight = s.flight := convertTrails_keeps (·.flight) (fun s n => convertTrail_flight n s) s
@[simp] theorem convertTrails_unit (s : State) : s.convertTrails.1.fire.unit = s.fire.unit := convertTrails_keeps (·.fire.unit) (fun s n => convertTrail_unit n s) s
@[simp] theorem convertTrails_cap_lines (s : State) : s.convertTrails.1.cap.lines = s.cap.lines := convertTrails_keeps (·.cap.lines) (fun s n => convertTrail_cap_lines n s) s
@[simp] theorem convertTrails_cap_log (s : State) : s.convertTrails.1.cap.log = s.cap.log := convertTrails_keeps (·.cap.log) (fun s n => convertTrail_cap_log n s) s
@[simp] theorem convertTrails_cap_clost (s : State) : s.convertTrails.1.cap.clost = s.cap.clost := convertTrails_keeps (·.cap.clost) (fun s n => convertTrail_cap_clost n s) s
@[simp] theorem convertTrails_cap_gapPending (s : State) : s.convertTrails.1.cap.gapPending = s.cap.gapPending := convertTrails_keeps (·.cap.gapPending) (fun s n => convertTrail_cap_gapPending n s) s

/-- The distance of a tick value moved on: the sum, wrapped modulo 2^32 (section 0.4). -/
theorem distance_add (base tick : Tick) (m : Nat) :
    distance (base + BitVec.ofNat 32 m) tick = Int.bmod (distance base tick + m) 4294967296 := by
  have h : base + BitVec.ofNat 32 m - tick = (base - tick) + BitVec.ofNat 32 m := by
    rw [BitVec.sub_eq_add_neg, BitVec.sub_eq_add_neg, BitVec.add_assoc, BitVec.add_assoc, BitVec.add_comm (BitVec.ofNat 32 m)]
  unfold distance
  have e : (BitVec.ofNat 32 m).toInt = Int.bmod (m : Int) (2 ^ 32) := BitVec.toInt_ofNat' ..
  rw [h, BitVec.toInt_add, e]
  simp

/-- R60: `periodsAhead` is the least number of periods, 1 or more, that puts the base ahead of TICK. -/
theorem periodsAhead_least (base tick : Tick) (p : Nat) (hp : 0 < p) (hp2 : p < 16777216) :
    let k := periodsAhead (distance base tick) p
    1 ≤ k ∧ 0 < distance (base + BitVec.ofNat 32 (k * p)) tick ∧
      ∀ j : Nat, 1 ≤ j → j < k → distance (base + BitVec.ofNat 32 (j * p)) tick ≤ 0 := by
  have hlo : -2147483648 ≤ distance base tick := BitVec.le_toInt (base - tick)
  have hhi : distance base tick < 2147483648 := BitVec.toInt_lt (x := base - tick)
  simp only [distance_add]
  generalize distance base tick = b at hlo hhi
  have wrap (x : Int) (h1 : -2147483648 ≤ x) (h2 : x < 2147483648) : Int.bmod x 4294967296 = x := by
    rw [Int.bmod_def]; split <;> omega
  have wrap' (x : Int) (h1 : 2147483648 ≤ x) (h2 : x < 6442450944) : Int.bmod x 4294967296 = x - 4294967296 := by
    rw [Int.bmod_def]; split <;> omega
  unfold periodsAhead
  split
  · rename_i h
    obtain ⟨d, hd⟩ : ∃ d : Nat, d = (-b).toNat / p := ⟨_, rfl⟩
    have hdm := Nat.div_add_mod (-b).toNat p
    have hm := Nat.mod_lt (-b).toNat hp
    have hn : ((-b).toNat : Int) = -b := Int.toNat_of_nonneg (by omega)
    rw [← hd] at hdm ⊢
    have e1 : (d + 1) * p = p * d + p := by ring
    refine ⟨by omega, ?_, ?_⟩
    · rw [e1, wrap] <;> omega
    · intro j _ hj
      have : j * p ≤ p * d := by rw [Nat.mul_comm p d]; exact Nat.mul_le_mul_right p (by omega)
      rw [wrap] <;> omega
  · rename_i h
    split
    · rename_i h1
      obtain ⟨d, hd⟩ : ∃ d : Nat, d = (4294967296 - b).toNat / p := ⟨_, rfl⟩
      have hdm := Nat.div_add_mod (4294967296 - b).toNat p
      have hm := Nat.mod_lt (4294967296 - b).toNat hp
      have hn : ((4294967296 - b).toNat : Int) = 4294967296 - b := Int.toNat_of_nonneg (by omega)
      rw [← hd] at hdm ⊢
      have e1 : (d + 1) * p = p * d + p := by ring
      refine ⟨by omega, ?_, ?_⟩
      · rw [e1, wrap'] <;> omega
      · intro j hj1 hj
        have : j * p ≤ p * d := by rw [Nat.mul_comm p d]; exact Nat.mul_le_mul_right p (by omega)
        have : p ≤ j * p := Nat.le_mul_of_pos_left p hj1
        rw [wrap'] <;> omega
    · rename_i h1
      refine ⟨le_rfl, ?_, fun j h1 h2 => by omega⟩
      rw [Nat.one_mul, wrap] <;> omega

end Sys2Proof.Machine
end

