-- ==== Sys2Proof/Laws/Blocks.lean ====
section
/-! SUPPORT. What the shared operations of the blocks can do, each said once: the CMD write, the jump, the requests to the output block and the
frame channel, the stores of the notice logic, the half bits, the release and the entry of HALTED. -/

namespace Sys2Proof.Machine

open Sys2Proof

/-- A CMD write is ignored in reset, refused while BUSY, and accepted while READY. -/
theorem cmdWrite_cases (code : Byte) (s : State) :
    (s.sched.hold.isSome = true ∧ s.cmdWrite code = s) ∨
    (s.sched.hold.isSome = false ∧ s.engine.busy = true ∧ s.cmdWrite code = s.requestFlag .cmdRefused) ∨
    (s.sched.hold.isSome = false ∧ s.engine.busy = false ∧ s.cmdWrite code = { s with engine := { s.engine with
      snapshot := s.engine.staging
      current := code
      result := .none
      state := if commandCodes.contains code then .accepted else .acted .badCmd zeros16 } }) := by
  unfold State.cmdWrite
  cases h : s.sched.hold.isSome <;> cases hb : s.engine.busy <;> simp

theorem busy_iff (e : Engine) : e.busy = true ↔ e.state ≠ .ready := by simp [Engine.busy]

/-- A command waits for its action step exactly when it is accepted with its code. -/
theorem awaits_iff (code : Byte) (s : State) : s.awaits code = true ↔ s.engine.state = .accepted ∧ s.engine.current = code := by
  simp [State.awaits]

/-! A jump (R8) -/

@[simp] theorem jump_time (new : Tick) (s : State) : (s.jump new).time = { s.time with tick := new, divider := 0 } := rfl
@[simp] theorem jump_slots (new : Tick) (s : State) : (s.jump new).slots = s.slots := rfl
@[simp] theorem jump_dueQueue (new : Tick) (s : State) : (s.jump new).fire.dueQueue = s.fire.dueQueue := rfl
@[simp] theorem jump_overdue (new : Tick) (s : State) : (s.jump new).fire.overdue = s.fire.overdue := rfl
@[simp] theorem jump_unit (new : Tick) (s : State) : (s.jump new).fire.unit = s.fire.unit := rfl
@[simp] theorem jump_out (new : Tick) (s : State) : (s.jump new).out = s.out := rfl
@[simp] theorem jump_cap (new : Tick) (s : State) : (s.jump new).cap = s.cap := rfl
@[simp] theorem jump_chan (new : Tick) (s : State) : (s.jump new).chan = s.chan := rfl
@[simp] theorem jump_sched (new : Tick) (s : State) : (s.jump new).sched = s.sched := rfl
@[simp] theorem jump_engine (new : Tick) (s : State) : (s.jump new).engine = s.engine := rfl
@[simp] theorem jump_notes (new : Tick) (s : State) : (s.jump new).notes = s.notes := rfl
@[simp] theorem jump_flight (new : Tick) (s : State) :
    (s.jump new).flight = { s.flight with jumps := s.flight.jumps ++ [new], markClears := s.flight.markClears + 1 } := rfl
@[simp] theorem jump_pending (new : Tick) (s : State) : (s.jump new).pending = s.pending := rfl

/-! Requests to the output block and the frame channel -/

/-- A request drives its line and marks it, or is blocked and changes the hand-offs alone. -/
theorem judgeRequest_cases (r : EdgeRequest) (s : State) :
    (s.out.applies r = true ∧ ∃ ns : List Notice, s.judgeRequest r = { s with
      out := { s.out with
        level := driveLine r.line (s.out.target r) s.out.level
        marks := s.out.marks.set r.line.val (some r.tick) r.line.isLt } }.handNotices .output ns) ∨
    (s.out.applies r = false ∧ s.judgeRequest r = s.handNotices .output [requestNotice .blocked r]) := by
  unfold State.judgeRequest
  cases h : s.out.applies r
  · exact .inr ⟨rfl, by simp⟩
  · refine .inl ⟨rfl, ?_⟩
    simp only [if_true]
    split
    · exact ⟨_, rfl⟩
    · exact ⟨[], rfl⟩

/-- A send request is appended with its frame locked, or leaves one notice and nothing else. -/
theorem judgeSend_cases (e : SendEntry) (s : State) :
    (∃ n : Notice, s.judgeSend e = s.handNotices .frame [n]) ∨
    (s.chan.frames[e.frame].bytes ≠ [] ∧ s.chan.haltHold = false ∧ s.chan.queue.length < Config.sendCapacity ∧
      s.judgeSend e = { s with chan := { s.chan.lockFrame e.frame with queue := s.chan.queue ++ [e] } }) := by
  unfold State.judgeSend
  split
  · exact .inl ⟨_, rfl⟩
  · rename_i h1
    split
    · exact .inl ⟨_, rfl⟩
    · rename_i h2
      split
      · exact .inl ⟨_, rfl⟩
      · rename_i h3
        refine .inr ⟨?_, by simpa using h2, by omega, rfl⟩
        intro h; apply h1; simpa using h

/-! The notice logic -/

/-- The oldest hand-off of the source is taken, and only past hand-offs that it need not wait for. -/
theorem takeBatch_some {source : NoticeSource} {l rest : List NoticeBatch} {b : NoticeBatch} (h : takeBatch source l = some (b, rest)) :
    ∃ before after : List NoticeBatch,
      l = before ++ b :: after ∧ rest = before ++ after ∧ b.source = source ∧
      (∀ x ∈ before, x.source ≠ source ∧ x.goesBefore b = false) ∧ b.metBy before = false := by
  have hs := List.takeWhile_append_dropWhile (p := fun c : NoticeBatch => c.source != source) (l := l)
  have hd := List.dropWhile_get_zero_not (fun c : NoticeBatch => c.source != source) l
  revert h
  unfold takeBatch
  cases hw : l.dropWhile fun c : NoticeBatch => c.source != source with
  | nil => simp
  | cons c after =>
    rw [hw] at hs hd
    simp only
    split
    · simp
    · rename_i hany
      simp only [Option.some.injEq, Prod.mk.injEq]
      rintro ⟨rfl, rfl⟩
      simp only [Bool.or_eq_true, List.any_eq_true, not_or, not_exists, not_and, Bool.not_eq_true] at hany
      refine ⟨_, _, hs.symm, rfl, by simpa using hd (by simp), fun x hx => ⟨?_, hany.1 x hx⟩, hany.2⟩
      simpa using List.mem_takeWhile_imp hx

/-- Storing touches the queue, NLOST, the sticky flags and the pending gap alone. -/
theorem storeAll_keeps (ns : List Notice) (l : NoticeLogic) :
    (l.storeAll ns).ien = l.ien ∧ (l.storeAll ns).nthr = l.nthr ∧ (l.storeAll ns).cthr = l.cthr ∧ (l.storeAll ns).wake = l.wake := by
  induction ns generalizing l with
  | nil => exact ⟨rfl, rfl, rfl, rfl⟩
  | cons n ns ih =>
    have h : (l.store n).ien = l.ien ∧ (l.store n).nthr = l.nthr ∧ (l.store n).cthr = l.cthr ∧ (l.store n).wake = l.wake := by
      unfold NoticeLogic.store; split <;> exact ⟨rfl, rfl, rfl, rfl⟩
    obtain ⟨h1, h2, h3, h4⟩ := ih (l.store n)
    exact ⟨h1.trans h.1, h2.trans h.2.1, h3.trans h.2.2.1, h4.trans h.2.2.2⟩

/-- The queue never outgrows its capacity by storing, and the counts stay in their ranges. -/
theorem storeAll_bounds (ns : List Notice) (l : NoticeLogic) (h : l.queue.length ≤ Config.noticeCapacity) (hn : l.nlost ≤ Config.byteMax) :
    (l.storeAll ns).queue.length ≤ Config.noticeCapacity ∧ (l.storeAll ns).nlost ≤ Config.byteMax := by
  induction ns generalizing l with
  | nil => exact ⟨h, hn⟩
  | cons n ns ih =>
    apply ih (l.store n)
    · unfold NoticeLogic.store; split
      · simp only [List.length_append, List.length_singleton]; omega
      · exact h
    · unfold NoticeLogic.store; split
      · exact hn
      · exact Nat.min_le_right _ _

/-! Half bits -/

/-- The end of a half bit leaves the frames, the queue, the hold and the set-up as they are, and every other block. -/
theorem endHalfBit_keeps (s : State) :
    ∃ (sh : Option Shift) (d : Nat), s.endHalfBit = { s with chan := { s.chan with shifter := sh, bitDivider := d } } ∧
      (sh = none ↔ s.chan.shifter = none) := by
  unfold State.endHalfBit
  split
  · rename_i h; exact ⟨none, s.chan.bitDivider, by rw [← h], by simp [h]⟩
  · rename_i sh h
    split
    · exact ⟨some sh, s.chan.bitDivider, by rw [← h], by simp [h]⟩
    · exact ⟨_, _, rfl, by simp [h]⟩

/-- The next bit time keeps the frame and whether it is being aborted. -/
theorem nextBit_entry (len : Nat) (sh : Shift) : (sh.nextBit len).entry = sh.entry ∧ (sh.nextBit len).aborting = sh.aborting := by
  unfold Shift.nextBit
  split
  · split <;> exact ⟨rfl, rfl⟩
  · split
    · exact ⟨rfl, rfl⟩
    · dsimp only; split <;> exact ⟨rfl, rfl⟩
  · exact ⟨rfl, rfl⟩
  · exact ⟨rfl, rfl⟩

/-! One sample of a capture line -/

/-- A sample touches the accepted level and the filter alone. -/
theorem sample_keeps (tick : Tick) (level : Bool) (l : CapLine) :
    ∃ (a : Bool) (f : Filter), (l.sample tick level).1 = { l with accepted := a, filter := f } := by
  unfold CapLine.sample
  split
  · split
    · exact ⟨l.accepted, l.filter, rfl⟩
    · split
      · exact ⟨level, l.filter, rfl⟩
      · exact ⟨l.accepted, .running tick 0, rfl⟩
  · rename_i transition count _
    split
    · exact ⟨l.accepted, .idle, rfl⟩
    · split
      · exact ⟨level, .idle, rfl⟩
      · exact ⟨l.accepted, .running transition (count + 1), rfl⟩

/-- A sample that gives an edge leaves the filter idle at a level other than the one accepted before, and the edge's level is the sample. -/
theorem sample_edge {tick t : Tick} {level : Bool} {l : CapLine} (h : (l.sample tick level).2 = some t) :
    (l.sample tick level).1.accepted = level ∧ level ≠ l.accepted ∧ (l.sample tick level).1.filter = .idle := by
  cases hf : l.filter with
  | idle =>
    simp only [CapLine.sample, hf] at h ⊢
    by_cases hl : level = l.accepted
    · simp [hl] at h
    · by_cases h0 : l.filterLength = 0
      · simp [hl, h0]
      · simp [hl, h0] at h
  | running transition count =>
    simp only [CapLine.sample, hf] at h ⊢
    by_cases hl : level = l.accepted
    · simp [hl] at h
    · by_cases h0 : l.filterLength ≤ count + 1
      · simp [hl, h0]
      · simp [hl, h0] at h

/-! The entry of HALTED -/

@[simp] theorem enterHalted_sched (s : State) (atRelease : Bool) : (s.enterHalted atRelease).sched = { s.sched with state := .halted } := by
  simp [State.enterHalted]
@[simp] theorem enterHalted_out (s : State) (atRelease : Bool) : (s.enterHalted atRelease).out = s.out.force := by simp [State.enterHalted]
@[simp] theorem enterHalted_time (s : State) (atRelease : Bool) : (s.enterHalted atRelease).time = s.time := by simp [State.enterHalted]
@[simp] theorem enterHalted_chan (s : State) (atRelease : Bool) : (s.enterHalted atRelease).chan = s.chan := by simp [State.enterHalted]
@[simp] theorem enterHalted_engine (s : State) (atRelease : Bool) : (s.enterHalted atRelease).engine = s.engine := by simp [State.enterHalted]
@[simp] theorem enterHalted_notes (s : State) (atRelease : Bool) : (s.enterHalted atRelease).notes = s.notes := by simp [State.enterHalted]
@[simp] theorem enterHalted_pins (s : State) (atRelease : Bool) : (s.enterHalted atRelease).pins = s.pins := by simp [State.enterHalted]
@[simp] theorem enterHalted_pending (s : State) (atRelease : Bool) : (s.enterHalted atRelease).pending = s.pending := by simp [State.enterHalted]

/-- The hand-offs of an entry: one of notices that begins with HALT_ENTERED, the flag, and the halt request. -/
theorem enterHalted_flight (s : State) (atRelease : Bool) : ∃ told : List Notice,
    (s.enterHalted atRelease).flight = { s.flight with
      notices := s.flight.notices ++ [⟨.scheduler, s.plainNotice .haltEntered (byteOf s.sched.state.code) :: told, 0, atRelease⟩]
      flags := s.flight.flags ++ [.halt]
      frameCtl := s.flight.frameCtl ++ [.halt] } := by
  exact ⟨({ s with sched := { s.sched with state := .halted }, out := s.out.force } : State).convertTrails.2, by
    simp [State.enterHalted, batchOf]⟩

/-- The release from reset touches the pins, the detectors, the accepted levels and the hold, and then enters HALTED if HALT# is asserted. -/
theorem release_cases (pins : PinLevels) (s : State) :
    ∃ s1 : State, s1 = { s with
        pins := pins
        time := { s.time with syncSeen := pins.sync }
        cap := { s.cap with lines := Vector.ofFn fun c : CapNo => { s.cap.lines[c] with accepted := pins.cap.getLsbD c.val } }
        sched := { s.sched with haltSeen := pins.haltAsserted, hold := none } } ∧
      ((pins.haltAsserted = true ∧ s.release pins = s1.enterHalted (atRelease := true)) ∨ (pins.haltAsserted = false ∧ s.release pins = s1)) := by
  refine ⟨_, rfl, ?_⟩
  unfold State.release
  cases h : pins.haltAsserted <;> simp

end Sys2Proof.Machine
end

