-- ==== Sys2Proof/Tests/Slice0.lean ====
section
/-! SUPPORT. Small tests: the checks of WellFormed, words, single steps with results worked out in the spec, and for each statement with
hypotheses a state and operands that meet them. -/

namespace Sys2Proof.Tests

open Sys2Proof Sys2Proof.Machine

-- One theorem after another: many at once hold more memory than the check allows.
set_option Elab.async false

/-! ### States for the tests -/

/-- The part in a scheduler state at a TICK, the safe hold as R77 has it. -/
def part (st : SchedState) (tick : Tick) : State :=
  let s := State.reset
  { s with
    time := { s.time with tick := tick }
    sched := { s.sched with state := st }
    out := { s.out with safeHold := st == .halted }
    engine := { s.engine with state := if st = .recovering then .draining else .ready } }

/-- The slot in its place, with tag 1, joining the tail of the collection the place names. -/
def put (n : SlotNo) (p : Place) (r : Record) (s : State) : State :=
  let s1 := { s with slots := s.slots.set n.val { tag := 1, place := p, record := r, repeats := r.repeatsPosted, occurrences := 0 } n.isLt }
  match p with
  | .queued _ _ => { s1 with fire := { s1.fire with dueQueue := s1.fire.dueQueue ++ [n] } }
  | .overdue _ => { s1 with fire := { s1.fire with overdue := s1.fire.overdue ++ [n] } }
  | .parked =>
    match r.start.parkLine with
    | some c => { s1 with cap := { s1.cap with parks := s1.cap.parks.set c.val (s1.cap.parks[c] ++ [n]) c.isLt } }
    | none => s1
  | _ => s1

/-- A look of the firing unit outstanding (R47). -/
def looking (s : State) : State := { s with fire := { s.fire with look := true } }

/-- The engine has accepted the command of this code with these staging bytes. -/
def accept (code : Byte) (bytes : List Byte) (s : State) : State :=
  { s with engine := { s.engine with state := .accepted, current := code, snapshot := windowOf bytes } }

/-- A one-shot of an action, from ABSOLUTE, FIRE_ONCE, notify END. -/
def oneShot (a : Action) : Record :=
  { action := a, start := .absolute 0, period := none, repeatsPosted := none, late := .fireOnce, notify := .atEnd, group := 0 }

/-- The state a command leaves. -/
def after (c : Instr) (s : State) : State :=
  match exec c s with
  | .next t => t
  | _ => s

/-- The state a step leaves. -/
def stepped (s : State) : State :=
  match step s with
  | .next t => t
  | _ => s

/-- The result that an action step fixed: its code and its leading bytes. -/
def result (n : Nat) (s : State) : Nat × List Byte :=
  match s.engine.state with
  | .acted code w => (code.code, w.toList.take n)
  | _ => (0, [])

/-- The notices on their way, as kind and detail. -/
def told (s : State) : List (NoticeKind × Byte) := s.flight.notices.flatMap fun b => b.notices.map fun n => (n.kind, n.detail)

/-- HALT# asserted, SYNC and the capture lines low. -/
def haltPins : PinLevels := { haltAsserted := true, sync := false, cap := 0 }

/-! ### WellFormed and words -/

/-- R143: 0x10 names POST, so it is no code of BAD_CMD. -/
theorem test_wellFormed_refuses_badCmd_of_post : WellFormed (.badCmd 0x10) = false := by decide
/-- R143: 0x14 names no command. -/
theorem test_wellFormed_takes_badCmd_of_0x14 : WellFormed (.badCmd 0x14) = true := by decide
/-- R179: IFLG at 0x05 has the row IFLG_CLEAR. -/
theorem test_wellFormed_refuses_write_of_iflg : WellFormed (.registerWrite 0x05 1) = false := by decide
/-- R145: the first staging byte has no row of its own. -/
theorem test_wellFormed_takes_write_of_staging : WellFormed (.registerWrite 0x20 1) = true := by decide
/-- The table gives no row bits, so that no word spells a command. -/
theorem test_no_word_spells_a_command : decodeTableWord 8 0x10 = none := by decide
/-- With no command spelled, the state stays. -/
theorem test_withFetchWord_keeps_the_state : State.reset.withFetchWord 8 0x10 = State.reset := rfl

/-! ### Single steps, with the results of chapter 11 and of the rules named -/

/-- Section 11.1: the POST staging bytes of the PWM. -/
def pwmBytes : List Byte := [0x02, 0x33, 0, 0xE8, 0x03, 0, 0, 0x64, 0, 0, 0, 0x1E, 0]

/-- Section 11.1: the record those bytes offer. -/
def pwm : Record :=
  { action := .pulse 3 true 30 true, start := .absolute 1000, period := some 100, repeatsPosted := none, late := .fireOnce
    notify := .never, group := 0 }

/-- Section 11.1: the bytes are that record and fail no check. -/
theorem test_post_layout :
    Layout.record (windowOf pwmBytes) = pwm ∧ recordFault (windowOf pwmBytes) 0 = none := by decide +kernel
/-- Section 11.1: POST returns handle 0.1 and due 1000. -/
theorem test_post_returns_handle_and_due :
    result 6 (after (.post .action) (accept 0x10 pwmBytes State.reset)) = (1, [0, 1, 0xE8, 0x03, 0, 0]) := by decide +kernel
/-- Section 11.1: the lead at 1000 puts slot 0 in TRAIL, due 1030. -/
theorem test_firing_lead_of_a_pulse :
    (after .firing (looking (put 0 (.queued 1000 .lead) pwm (part .running 1000)))).slots[0].place = .queued 1030 (.trail 1000 false) := by
  decide +kernel
/-- Section 11.1: the trail at 1030 puts slot 0 in LEAD, due 1100. -/
theorem test_firing_trail_of_a_pulse :
    (after .firing (looking (put 0 (.queued 1030 (.trail 1000 false)) pwm (part .running 1030)))).slots[0].place = .queued 1100 .lead := by
  decide +kernel
/-- Section 11.1: CANCEL 0.1 in TRAIL at 1210 reports QUEUED, TRAIL, restore. -/
theorem test_cancel_in_trail :
    let t := after (.cancel .action) (accept 0x11 [0, 1, 0] (put 0 (.queued 1230 (.trail 1200 false)) pwm (part .running 1210)))
    result 3 t = (1, [1, 1, 1]) ∧
      t.flight.restores = [{ line := 3, drive := .level false, handle := ⟨0, 1⟩, tick := 1210 }] := by decide +kernel
/-- Section 11.2: the third confirming sample at 5003 accepts the edge dated 5000, and the release puts slot 2 at the head. -/
theorem test_edgeAccepted_releases_in_order :
    let a : Record := { oneShot (.pulse 5 true 40 false) with start := .parked 1 200 true }
    let b : Record := { oneShot (.send 0) with start := .parked 1 180 true }
    let s := put 2 .parked b (put 1 .parked a (part .running 5003))
    let l : CapLine :=
      { select := .rise, filterLength := 3, logEnable := true, gateOpen := true, oneShot := false, accepted := false, filter := .running 5000 2 }
    let t := after .edgeAccepted { s with
      cap := { s.cap with lines := s.cap.lines.set 1 l }
      flight := { s.flight with ticks := [⟨5003, 0x02⟩] } }
    t.fire.dueQueue = [2, 1] ∧ t.slots[2].place = .queued 5180 .lead ∧ t.slots[1].place = .queued 5200 .lead ∧
      t.cap.parks[1] = [] ∧ t.cap.log = [{ line := 1, rise := true, timestamp := 5000, gap := false }] := by decide +kernel
/-- Section 11.2: LOAD_FRAME of the frame being shifted is LOCKED with bytes 4, 1, 0, 1. -/
theorem test_loadFrame_of_a_shifted_frame :
    let s := part .running 5190
    let e : SendEntry := { frame := 0, handle := ⟨2, 1⟩, notify := .atEnd, tick := 5180 }
    result 4 (after (.loadFrame .action) (accept 0x20 [0, 2, 7, 7] { s with chan := { s.chan with
      frames := s.chan.frames.set 0 { bytes := [1, 2, 3, 4], lock := 1 }
      shifter := some (Shift.begin e) } })) = (7, [4, 1, 0, 1]) := by decide +kernel
/-- Section 11.3: the restore request of tick 3000 finds the mark of 3000 and raises CONFLICT, detail 9. -/
theorem test_restoreRequest_conflict :
    let s := part .running 3000
    let t := after .restoreRequest { s with
      out := { s.out with mode := 0x0200, level := 0x0200, marks := s.out.marks.set 9 (some 3000) }
      flight := { s.flight with restores := [{ line := 9, drive := .level false, handle := ⟨7, 1⟩, tick := 3000 }] } }
    t.out.level = 0 ∧ told t = [(.conflict, 9)] := by decide +kernel

/-- Section 11.4: slots 0 to 3 as they stand at 10005. -/
def beforeHalt : State :=
  put 3 (.queued 10010 (.trail 10000 false))
      { oneShot (.pulse 2 true 10 false) with period := some 100, repeatsPosted := some 3, late := .skip }
    (put 2 (.queued 10040 .lead) { oneShot (.signal false) with notify := .never }
    (put 1 (.queued 10030 .lead) { oneShot (.set 1 true) with late := .skip }
    (put 0 (.queued 10020 .lead) { oneShot (.toggle 0) with period := some 50 } (part .running 10005))))

/-- Section 11.4: the entry converts slot 3 to LEAD, due 10100, with occurrences 1 and repeats 2, and tells HALT_ENTERED, detail 1. -/
theorem test_haltAssertion_converts :
    let s := beforeHalt
    let t := after .haltAssertion { s with fire := { s.fire with dueQueue := [3, 0, 1, 2] } }
    t.fire.dueQueue = [0, 1, 2, 3] ∧ t.slots[3].place = .queued 10100 .lead ∧ t.slots[3].occurrences = 1 ∧ t.slots[3].repeats = some 2 ∧
      told t = [(.haltEntered, 1)] := by decide +kernel
/-- Section 11.4: at 10020 slot 0 is diverted with its due. -/
theorem test_diversion_keeps_the_due :
    let t := after .diversion (looking (put 0 (.queued 10020 .lead) (oneShot (.toggle 0)) (part .halted 10020)))
    t.fire.overdue = [0] ∧ t.slots[0].place = .overdue 10020 := by decide +kernel
/-- Section 11.4, drain step 1: slot 0 goes on at 10170, with LATE 140 and MISSED 2. -/
theorem test_drainStep_of_a_periodic_toggle :
    let t := after .drainStep (looking (put 0 (.overdue 10020) { oneShot (.toggle 0) with period := some 50 } (part .recovering 10160)))
    t.slots[0].place = .queued 10170 .lead ∧ told t = [(.late, 140), (.missed, 2)] ∧ t.sched.drainCount = 1 := by decide +kernel
/-- Section 11.4, drain step 4: slot 3 under SKIP goes on at 10200 with repeats 1 and MISSED 1. -/
theorem test_drainStep_under_skip :
    let r : Record := { oneShot (.pulse 2 true 10 false) with period := some 100, repeatsPosted := some 2, late := .skip }
    let t := after .drainStep (looking (put 3 (.overdue 10100) r (part .recovering 10160)))
    t.slots[3].place = .queued 10200 .lead ∧ t.slots[3].repeats = some 1 ∧ told t = [(.missed, 1)] := by decide +kernel
/-- Section 11.4: the end of the drain tells RECOVERED 4, and START completes with OK and the window 2, 4, 0, 0. -/
theorem test_drainEnd_completes_start :
    let s := looking (part .recovering 10160)
    let t := after .drainEnd { s with sched := { s.sched with drainCount := 4 } }
    t.sched.state = .running ∧ told t = [(.recovered, 4)] ∧ t.engine.result = .ok ∧ t.engine.window.toList.take 4 = [2, 4, 0, 0] := by
  decide +kernel
/-- Section 11.4: HALT# during the drain completes START with HALT_ACTIVE, 2, 2, 0, 2. -/
theorem test_haltAssertion_cuts_the_drain :
    let s := put 3 (.overdue 10100) (oneShot (.toggle 2)) (put 2 (.overdue 10040) (oneShot (.signal false)) (part .recovering 10160))
    let t := after .haltAssertion { s with sched := { s.sched with drainCount := 2 } }
    told t = [(.haltEntered, 3)] ∧ t.engine.result = .haltActive ∧ t.engine.window.toList.take 4 = [2, 2, 0, 2] := by decide +kernel
/-- Section 11.5: the tenth firing frees slot 5 with DONE 10. -/
theorem test_firing_uses_up_the_repeats :
    let r : Record := { oneShot (.send 3) with period := some 1, repeatsPosted := some 1 }
    let s := looking (put 5 (.queued 30009 .lead) r (part .running 30009))
    let t := after .firing { s with slots := s.slots.set 5 { s.slots[5] with occurrences := 9 } }
    t.slots[5].place = .free ∧ told t = [(.done, 10)] := by decide +kernel
/-- Section 11.5: the request that finds the queue full is refused with SEND_DROPPED 3. -/
theorem test_sendRequest_on_a_full_queue :
    let s := part .running 30009
    let e : SendEntry := { frame := 3, handle := ⟨5, 4⟩, notify := .atEnd, tick := 30009 }
    told (after .sendRequest { s with
      chan := { s.chan with frames := s.chan.frames.set 3 { bytes := List.replicate 12 0, lock := 9 }, queue := List.replicate 8 e }
      flight := { s.flight with sends := [e] } }) = [(.sendDropped, 3)] := by decide +kernel
/-- Section 11.6, part Q: TICK 1 000 000 after the edge, and SYNCED. -/
theorem test_syncEdge_accepted :
    let s := put 1 (.queued 1000500 .lead) (oneShot (.set 1 true))
      (put 0 (.queued 13000 .lead) { oneShot (.toggle 0) with period := some 1000 } (part .running 12445))
    let t := after (.syncEdge true) { s with time := { s.time with armed := true, syncVal := 1000000 } }
    t.time.tick = 1000000 ∧ t.time.armed = false ∧ told t = [(.synced, 0)] := by decide +kernel
/-- Section 11.6, part Q: slot 0 taken at -987 001 goes on at 1 001 000 with LATE 255 and MISSED 255. -/
theorem test_firing_far_behind :
    let t := after .firing (looking (put 0 (.queued 13000 .lead) { oneShot (.toggle 0) with period := some 1000 } (part .running 1000001)))
    t.slots[0].place = .queued 1001000 .lead ∧ told t = [(.late, 255), (.missed, 255)] := by decide +kernel
/-- Section 11.6, part R: the jump would put the tail 1 074 000 000 ahead, and is refused at its own TICK. -/
theorem test_syncEdge_refused :
    let s := put 0 (.queued 1075000000 .lead) (oneShot (.set 0 true)) (part .running 3000000)
    let t := after (.syncEdge true) { s with time := { s.time with armed := true, syncVal := 1000000 } }
    t.time.tick = 3000000 ∧ t.time.armed = false ∧ told t = [(.syncRejected, 0)] := by decide +kernel
/-- R12: a second sample at 1 is no edge, and a sample at 0 makes the next one at 1 an edge again. -/
theorem test_syncEdge_needs_a_rising_sample :
    let s : State := { part .running 5 with time := { (part .running 5).time with armed := true, syncVal := 9, syncSeen := true } }
    (after (.syncEdge true) s).time.tick = 5 ∧ (after (.syncEdge true) (after (.syncEdge false) s)).time.tick = 9 := by decide +kernel
/-- R60: of a base 2^31 - 1 ticks ahead, the first period of 10 wraps to 2^31 - 9 ticks behind; the 214748366th after it lies ahead. -/
theorem test_periodsAhead_wraps : periodsAhead 2147483647 10 = 214748365 := by decide +kernel
/-- R177: with CS#, RD# and WR# all asserted neither access is taken; a read of TCK0 loads the latch. -/
theorem test_strobes_pick_the_access :
    let s := part .running 0x01020304
    after (.registerWrite 0x20 7 ⟨true, true, true⟩) s = s ∧ (after (.registerWrite 0x20 7) s).engine.staging[0] = 7 ∧
      (after (.registerWrite 0x08 0 .read) s).time.latch = 0x01020304 ∧ s.dataPins .read 0x00 = some 0x5C ∧ s.dataPins .write 0x00 = none := by
  decide +kernel
/-- R3: TICK goes on from its greatest value to 0. -/
theorem test_tickEvent_wraps : (after (.tickEvent (.advance 0)) (part .running 0xFFFFFFFF)).time.tick = 0 := by decide +kernel
/-- R180, R71: with line 1 DIRECT, a DLVL write drives it alone. -/
theorem test_dlvlWrite_drives_direct_lines :
    let s := part .running 0
    (after (.dlvlWrite .low 0xFF) { s with out := { s.out with mode := 0xFFFD } }).out.level = 0x0002 := by decide +kernel
/-- R166: the seventeenth notice is lost, counted, flagged, and leaves a gap. -/
theorem test_noticeHandoff_on_a_full_queue :
    let s := part .running 0
    let n : Notice := { kind := .fired, handle := some ⟨0, 1⟩, time := 0, detail := 0 }
    let t := after (.noticeHandoff .firing) { s with
      notes := { s.notes with queue := List.replicate 16 { notice := n, gap := false } }
      flight := { s.flight with notices := [⟨.firing, [n], 0, false⟩] } }
    t.notes.nlost = 1 ∧ t.notes.sticky = 0x10 ∧ t.notes.gapPending = true ∧ t.notes.queue.length = 16 := by decide +kernel
/-- R184: the head notice FIRED with a gap mark reads as 0x81. -/
theorem test_notice_head_code :
    let s := part .running 0
    let n : Notice := { kind := .fired, handle := some ⟨7, 1⟩, time := 0x01020304, detail := 2 }
    { s with notes := { s.notes with queue := [{ notice := n, gap := true }] } }.noticeHead = [0x81, 7, 1, 4, 3, 2, 1, 2] := by
  decide +kernel
/-- R32: width 0 of a PULSE fails check 6. -/
theorem test_post_width_zero :
    result 1 (after (.post .action) (accept 0x10 [0x02, 0x33, 0, 0xE8, 0x03] State.reset)) = (3, [6]) := by decide +kernel

/-! ### States and operands that meet the hypotheses of the statements -/

/-- A slot in each of the places, in a scheduler state at TICK 1000. -/
def everyPlace (st : SchedState) : State :=
  put 0 (.queued 1000 .lead) (oneShot (.set 0 true))
    (put 1 .parked { oneShot (.signal true) with start := .parked 2 7 true }
    (put 2 (.held .park) { oneShot (.toggle 1) with start := .parked 2 9 false }
    (put 3 (.held (.queue 5)) (oneShot (.send 0))
    (put 4 (.held .atEnd) (oneShot (.gate 1 true)) (part st 1000)))))

/-- `everyPlace` in RUNNING, with a PULSE in phase TRAIL behind slot 0. -/
def running : State := put 5 (.queued 1001 (.trail 990 false)) (oneShot (.pulse 3 true 11 true)) (everyPlace .running)

/-- `everyPlace` in HALTED, with an OVERDUE slot. -/
def halted : State := put 6 (.overdue 900) (oneShot (.signal false)) (everyPlace .halted)

/-- The part held in reset. -/
def held : State := after .powerOnReset State.reset

/-- A command waits at the front of the queue. -/
def give (c : Instr) (s : State) : State := { s with pending := [c] }

theorem witness_StepRunsTheFrontCommand : (give .npop running).pending = .npop :: [] := by decide +kernel

theorem witness_QuietPeriodsMakeOneTick :
    let quiet (s : State) : Prop :=
      s.pending = [] ∧ s.ownStep = none ∧ s.sched.hold = none ∧ s.fire.unit = .idle ∧ s.chan.shifter = none
    let s := part .running 7
    let last : State := { s with time := { s.time with divider := 15 } }
    (quiet s ∧ s.sched.state ≠ .stopped ∧ s.time.divider + 15 < 2 ^ s.time.psel) ∧
      (quiet last ∧ last.sched.state ≠ .stopped ∧ last.time.divider + (0 + 1) = 2 ^ last.time.psel) ∧
      quiet State.reset ∧ State.reset.sched.state = .stopped := by decide +kernel

theorem witness_QuietPeriodsMakeOneTick_busy :
    let waits (s : State) : Prop := s.pending = [] ∧ s.ownStep = none ∧ s.sched.hold = none
    let unit (k : Nat) : State := { part .running 7 with fire := { State.reset.fire with unit := .firing k } }
    let shifting (phase : FramePhase) (aborting : Bool) (bit divider : Nat) : State :=
      let s := part .running 7
      let e : SendEntry := { frame := 7, handle := ⟨8, 1⟩, notify := .atEnd, tick := 1 }
      { s with chan := { s.chan with
          bdiv := 1
          bitDivider := divider
          shifter := some { Shift.begin e with phase := phase, aborting := aborting, bit := bit, secondHalf := true } } }
    (waits (unit 0) ∧ (unit 0).fire.unit = .firing 0) ∧ (waits (unit 1) ∧ (unit 1).fire.unit = .firing 1) ∧
      (waits (shifting .data false 7 0) ∧ (shifting .data false 7 0).chan.bitDivider < (shifting .data false 7 0).chan.bdiv.toNat) ∧
      (waits (shifting .leadOut true 0 1) ∧ (shifting .leadOut true 0 1).chan.bdiv.toNat ≤ (shifting .leadOut true 0 1).chan.bitDivider) ∧
      waits (shifting .leadOut false 0 1) ∧ waits (shifting .gap false 1 1) ∧ waits (shifting .data false 7 1) := by decide +kernel

theorem witness_EveryStepKeepsSlotsInPlace : (give .firing (looking running)).PlacesAgree ∧ (give .npop halted).PlacesAgree := by
  decide +kernel

theorem witness_EveryStepKeepsTheLines : (give .edgeRequest running).LinesAgree ∧ (give .npop halted).LinesAgree := by decide +kernel

theorem witness_EveryStepKeepsTheCapacities : (give .npop running).WithinBounds := by decide +kernel

theorem witness_EveryStepKeepsTheLockCounts :
    let s := give (.loadFrame .action) (accept 0x20 [7, 1, 0x55] (part .running 0))
    s.LocksAgree ∧ (stepped s).chan.frames[7].bytes ≠ s.chan.frames[7].bytes := by decide +kernel

/-- The premises of EveryStepKeepsTheHalt. -/
abbrev haltPremises (s : State) : Prop := s.PlacesAgree ∧ s.HoldAgrees ∧ s.HaltAgrees

theorem witness_EveryStepKeepsTheHalt :
    haltPremises (give .haltAssertion running) ∧ haltPremises (give .haltRelease halted) ∧ haltPremises (give .npop (part .recovering 3)) ∧
      haltPremises (give (.resetRelease haltPins) held) :=
  ⟨by decide +kernel, by decide +kernel, by decide +kernel, by decide +kernel⟩

theorem witness_EveryStepKeepsTheResetHold :
    let s := give (.resetRelease haltPins) held
    s.HoldAgrees ∧ s.sched.hold.isSome = true ∧ (stepped s).sched.hold = none ∧
      ((give (.syncEdge true) running).DetectorsAgree ∧ (give .haltAssertion running).sched.hold = none) := by decide +kernel

theorem witness_TickHoldsInStopped :
    let s := give (.setTime .action) (accept 0x30 [1] State.reset)
    let d := give (.tcfgWrite 4) { State.reset with time := { State.reset.time with divider := 9 } }
    (s.sched.state = .stopped ∧ (stepped s).time.tick ≠ s.time.tick) ∧
      d.sched.state = .stopped ∧ (stepped d).time.divider ≠ d.time.divider := by decide +kernel

theorem witness_TagsMoveOnlyAtAllocation :
    let s := give (.post .action) (accept 0x10 pwmBytes running)
    (s.PlacesAgree ∧ ∀ n : SlotNo, s.slots[n].inUse = true → s.slots[n].tag ≠ 0) ∧ (stepped s).slots[6].tag ≠ s.slots[6].tag := by
  decide +kernel

theorem witness_SchedulerMovesFollowTheTable :
    (stepped (give .haltAssertion running)).sched.state ≠ running.sched.state ∧
      (stepped (give (.start .action) (accept 0x38 [] halted))).sched.state ≠ halted.sched.state ∧
      (stepped (give (.stop .action) (accept 0x39 [] running))).sched.state ≠ running.sched.state ∧
      (stepped (give .drainEnd (looking (part .recovering 3)))).sched.state ≠ .recovering ∧
      (stepped (give .rstPinReset running)).sched.state ≠ running.sched.state ∧
      (stepped (give (.resetRelease haltPins) held)).sched.state ≠ held.sched.state := by decide +kernel

theorem witness_LinesMoveOnlyByTheirEvents :
    (stepped (give (.dlvlWrite .high 0x80) running)).out.level ≠ running.out.level := by decide +kernel

theorem witness_RecordReadBackIsTheRecord :
    running.slots[5].record.Fits ∧ pwm.Fits ∧ recordFault (windowOf pwmBytes) 0 = none := by decide +kernel

/-- A legal layout of every kind and every start mode. -/
theorem witness_FirstFailedCheckIsReported :
    let legal (b : List Byte) : Prop := recordFault (windowOf b) 0 = none
    legal [0x00, 0x1F] ∧ legal [0x49, 0x0F] ∧ legal pwmBytes ∧ legal [0x93, 0x47, 7, 0, 0, 0, 0, 0, 0, 0, 0, 0, 0, 7] ∧ legal [0x2C, 0x10] ∧
      legal [0x05, 0x17] := by decide +kernel

theorem witness_TickEventAdvancesTick :
    let far : State := put 7 (.overdue 0) { oneShot (.toggle 1) with period := some 8 } (part .halted 1073741824)
    (running.sched.state ≠ .stopped ∧ running.sched.hold = none ∧ running.fire.unit = .idle ∧ running.sched.state ≠ .recovering ∧
        running.fire.dueQueue = 0 :: [5] ∧ running.slots[(0 : SlotNo)].place = .queued 1000 .lead) ∧
      (far.slots[(7 : SlotNo)].place = .overdue 0 ∧ distance 0 (far.time.tick + 1) < -2 ^ 30) ∧
      (running.beginFiring.fire.unit ≠ .idle ∧ State.reset.sched.state = .stopped ∧ held.sched.hold.isSome = true) := by decide +kernel

theorem witness_AcceptedJumpShiftsEveryDistance :
    let s := running
    (s.jumpAllowed (1000 + 2 ^ 30) = true ∧ s.jumpAllowed (1001 + 2 ^ 30) = false) ∧ s.InOrder ∧ (0 : SlotNo) ∈ s.fire.dueQueue ∧
      s.slots[(0 : SlotNo)].place = .queued 1000 .lead := by decide +kernel

theorem witness_SetTimeLoadsOrRefuses :
    let s := accept 0x30 [0xE8, 3, 0, 0] (everyPlace .stopped)
    let far := accept 0x30 [0xE9, 3, 0, 0x40] (everyPlace .stopped)
    ((accept 0x30 [] running).accepted 0x30 ∧ running.sched.state ≠ .stopped) ∧
      (s.accepted 0x30 ∧ s.sched.state = .stopped ∧ s.time.tick = 1000 ∧ s.jumpAllowed 1000 = true) ∧
      (far.accepted 0x30 ∧ far.jumpAllowed 0x400003E9 = false) := by decide +kernel

theorem witness_SyncEdgeJumpsWhenArmed :
    let armed (v : Tick) : State := { running with time := { running.time with armed := true, syncVal := v } }
    held.sched.hold.isSome = true ∧ (running.sched.hold = none ∧ running.time.armed = false ∧ (armed 1000).time.syncSeen = false) ∧
      ((armed 1000).time.armed = true ∧ (armed 1000).sched.state = .running ∧ (armed 1000).jumpAllowed 1000 = true) ∧
      (armed 0x400003E9).jumpAllowed 0x400003E9 = false := by decide +kernel

theorem witness_ArmSyncSetsTheArmFlag :
    let s (v : Byte) : State := accept 0x31 [v] running
    ((s 1).accepted 0x31 ∧ (s 1).engine.snapshot[0] = 1) ∧ ((s 0).accepted 0x31 ∧ (s 0).engine.snapshot[0] = 0) ∧
      (s 2).accepted 0x31 ∧ (s 2).engine.snapshot[0] ≠ 0 ∧ (s 2).engine.snapshot[0] ≠ 1 := by decide +kernel

theorem witness_Tck0ReadLatchesTick :
    running.sched.hold = none ∧ held.sched.hold.isSome = true ∧ (stepped (give .tck0Read running)).time.latch ≠ running.time.latch := by
  decide +kernel

theorem witness_TcfgWriteLoadsPselInStopped :
    let s := State.reset
    (s.sched.hold = none ∧ s.sched.state = .stopped ∧ 4 ≤ (4 : Byte).toNat ∧ (12 : Byte).toNat ≤ 12) ∧
      held.sched.hold.isSome = true ∧ running.sched.state ≠ .stopped ∧ (3 : Byte).toNat < 4 ∧ 12 < (13 : Byte).toNat := by decide +kernel

theorem witness_InsertionStandsBehindItsEquals :
    running.slots[(9 : SlotNo)].isQueued = false ∧ (9 : SlotNo) ∉ running.fire.dueQueue ∧ running.InOrder := by decide +kernel

/-- `running` with FIRING at the front of its queue. -/
def firingNext : State := give .firing (looking running)

theorem witness_InsertionStandsBehindItsEquals_by_steps :
    firingNext.PlacesAgree ∧ firingNext.InOrder ∧ firingNext.ShortOfWrap ∧ firingNext.WithinForwardLimit ∧ firingNext.PastBehind ∧
      (stepped firingNext).fire.dueQueue ≠ firingNext.fire.dueQueue :=
  ⟨by decide +kernel, by decide +kernel, by decide +kernel, by decide +kernel, by decide +kernel, by decide +kernel⟩

/-- A slot with this record, due at 1000 and taken at the TICK given. -/
def taken (r : Record) (tick : Tick) : State := looking (put 8 (.queued 1000 .lead) r (part .running tick))

theorem witness_FiringEndsAOneShot :
    let r := oneShot (.set 0 true)
    (taken r 1000).looksAt 8 [] ∧ (taken r 1000).sched.state = .running ∧ (taken r 1000).slots[(8 : SlotNo)].place = .queued 1000 .lead ∧
      (taken r 1000).slots[(8 : SlotNo)].executesAt 1000 1000 ∧ (taken r 1000).slots[(8 : SlotNo)].executesAt 1000 1001 ∧
      r.action.isPulse = false ∧ r.period = none ∧ (taken r 1000).inNoPark 8 ∧ r.start.rearm = false := by decide +kernel

theorem witness_FiringEndsAOneShot_rearmed :
    let r : Record := { oneShot (.set 0 true) with start := .parked 4 7 true }
    (taken r 1000).looksAt 8 [] ∧ (taken r 1000).slots[(8 : SlotNo)].executesAt 1000 1000 ∧ (taken r 1000).inNoPark 8 ∧
      (taken r 1000).slots[(8 : SlotNo)].record.start = .parked 4 7 true := by decide +kernel

/-- Three periods of 10 put 1000 ahead of 1020, two do not. -/
theorem leastAhead_witness : LeastAhead 1000 1020 10 3 := by
  have h : distance 1000 1020 = -20 := by decide
  refine ⟨by omega, by rw [h]; omega, fun j h1 h2 => ?_⟩
  rw [h]; omega

theorem witness_FiringRealignsAPeriodicSlot :
    let r (q : Nat) : Record := { oneShot (.toggle 0) with period := some 10, repeatsPosted := some q }
    LeastAhead 1000 1020 10 3 ∧ (taken (r 4) 1020).looksAt 8 [] ∧ (taken (r 4) 1020).slots[(8 : SlotNo)].executesAt 1000 1020 ∧
      (∀ q ∈ (taken (r 4) 1020).slots[(8 : SlotNo)].repeats, 3 + 1 ≤ q) ∧
      (taken (r 3) 1020).slots[(8 : SlotNo)].repeats = some 3 ∧ (taken (r 3) 1020).inNoPark 8 :=
  ⟨leastAhead_witness, by decide +kernel⟩

theorem witness_FiringBeginsAPulse :
    let r := oneShot (.pulse 3 true 11 false)
    (taken r 1000).looksAt 8 [] ∧ (taken r 1000).slots[(8 : SlotNo)].place = .queued 1000 .lead ∧
      (taken r 1000).slots[(8 : SlotNo)].executesAt 1000 1000 ∧ r.action = .pulse 3 true 11 false := by decide +kernel

theorem witness_FiringEndsAPulse :
    let r := oneShot (.pulse 3 true 11 false)
    let s (st : SchedState) (pend : Bool) : State := looking (put 8 (.queued 1011 (.trail 1000 pend)) r (part st 1011))
    ((s .running false).looksAt 8 [] ∧ (s .running false).slots[(8 : SlotNo)].place = .queued 1011 (.trail 1000 false)) ∧
      ((s .recovering true).looksAt 8 [] ∧ (s .recovering true).slots[(8 : SlotNo)].place = .queued 1011 (.trail 1000 true)) ∧
      distance 1011 1011 ≤ 0 ∧ r.period = none ∧ (s .running false).inNoPark 8 := by decide +kernel

/-- Two periods of 12 put the lead due 1000 ahead of 1015, one does not. -/
theorem nextAhead_witness : NextAhead 1000 1015 12 2 :=
  ⟨by decide, by decide, fun j h1 h2 => by interval_cases j; decide⟩

theorem witness_FiringEndsAPulse_periodic :
    let r (q : Nat) : Record :=
      { oneShot (.pulse 3 true 11 false) with start := .parked 4 7 true, period := some 12, repeatsPosted := some q }
    let s (q : Nat) (pend : Bool) : State := looking (put 8 (.queued 1011 (.trail 1000 pend)) (r q) (part .running 1015))
    NextAhead 1000 1015 12 2 ∧
      ((s 3 true).looksAt 8 [] ∧ (s 3 true).slots[(8 : SlotNo)].record.period = some 12 ∧
        (∀ q ∈ (s 3 true).slots[(8 : SlotNo)].repeats, 2 + 1 ≤ q) ∧ (s 3 true).inNoPark 8) ∧
      ((s 2 false).looksAt 8 [] ∧ (s 2 false).slots[(8 : SlotNo)].repeats = some 2) ∧ (s 1 false).slots[(8 : SlotNo)].repeats = some 1 :=
  ⟨nextAhead_witness, by decide +kernel⟩

theorem witness_LateOneShotIsSkipped :
    let r : Record := { oneShot (.set 0 true) with late := .skip }
    let again : Record := { r with start := .parked 4 7 true }
    ((taken r 1001).looksAt 8 [] ∧ distance 1000 (taken r 1001).time.tick < 0 ∧ r.start.rearm = false) ∧
      (taken again 1001).looksAt 8 [] ∧ again.start = .parked 4 7 true ∧ (8 : SlotNo) ∉ (taken again 1001).cap.parks[(4 : CapNo)] := by
  decide +kernel

theorem witness_LateOneShotIsSkipped_periodic :
    let r (q : Nat) : Record := { oneShot (.toggle 0) with late := .skip, period := some 10, repeatsPosted := some q }
    LeastAhead 1000 1020 10 3 ∧
      ((taken (r 4) 1020).looksAt 8 [] ∧ distance 1000 (taken (r 4) 1020).time.tick < 0 ∧
        ∀ q ∈ (taken (r 4) 1020).slots[(8 : SlotNo)].repeats, 3 + 1 ≤ q) ∧
      ((taken (r 3) 1020).looksAt 8 [] ∧ (taken (r 3) 1020).slots[(8 : SlotNo)].repeats = some 3 ∧ (taken (r 3) 1020).inNoPark 8) :=
  ⟨leastAhead_witness, by decide +kernel⟩

theorem witness_DiversionSetsTheHeadAside :
    let s (st : SchedState) : State := looking (put 8 (.queued 1000 .lead) (oneShot (.toggle 0)) (part st 1000))
    ((s .halted).looksAt 8 [] ∧ (s .halted).sched.state = .halted ∧ (s .halted).slots[(8 : SlotNo)].place = .queued 1000 .lead ∧
        distance 1000 1000 ≤ 0) ∧
      (s .recovering).looksAt 8 [] ∧ (s .recovering).beginFiring.fire.unit = .firing 0 ∧ (s .running).beginFiring.fire.unit = .firing 0 ∧
      (everyPlace .stopped).beginFiring.fire.unit = .firing 0 := by decide +kernel

theorem witness_DrainWorksOffTheOverdueList :
    let s (late : LatePolicy) : State := looking (put 8 (.overdue 900) { oneShot (.toggle 0) with late := late }
      (put 9 (.queued 1001 .lead) (oneShot (.toggle 1)) (part .recovering 1000)))
    let ended : State := looking (part .recovering 1000)
    ((s .skip).fire.unit = .idle ∧ (s .skip).fire.look = true ∧ (s .skip).sched.state = .recovering ∧
        (∀ h : SlotNo, (s .skip).fire.dueQueue.head? = some h → 0 < (s .skip).slotDistance h) ∧
        (s .skip).fire.overdue = 8 :: [] ∧ (s .skip).slots[(8 : SlotNo)].place = .overdue 900) ∧
      ((s .fireOnce).fire.overdue = 8 :: [] ∧ (s .fireOnce).slots[(8 : SlotNo)].record.late = .fireOnce) ∧
      ((s .skip).inNoPark 8 ∧ (s .skip).slots[(8 : SlotNo)].record.period = none) ∧
      ended.fire.overdue = [] ∧ ended.fire.unit = .idle ∧ ended.fire.look = true := by decide +kernel

/-- Slot 8, periodic and OVERDUE since 1000, in RECOVERING at 1015. -/
def overdue (a : Action) (late : LatePolicy) (q : Nat) : State :=
  looking (put 8 (.overdue 1000) { oneShot a with late := late, period := some 12, repeatsPosted := some q } (part .recovering 1015))

/-- The premises of the drain of slot 8. -/
abbrev drainPremises (s : State) : Prop :=
  s.fire.unit = .idle ∧ s.fire.look = true ∧ s.sched.state = .recovering ∧ s.fire.dueQueue = [] ∧ s.fire.overdue = 8 :: [] ∧
    s.slots[(8 : SlotNo)].place = .overdue 1000 ∧ s.slots[(8 : SlotNo)].record.period = some 12 ∧ s.inNoPark 8

theorem witness_DrainWorksOffTheOverdueList_pulse_and_periodic :
    NextAhead 1000 1015 12 2 ∧ drainPremises (overdue (.pulse 3 true 11 false) .fireOnce 3) ∧ drainPremises (overdue (.toggle 3) .fireOnce 3) ∧
      drainPremises (overdue (.toggle 3) .fireOnce 2) ∧ drainPremises (overdue (.toggle 3) .skip 3) ∧
      (∀ q ∈ (overdue (.toggle 3) .fireOnce 3).slots[(8 : SlotNo)].repeats, 2 + 1 ≤ q) ∧
      (overdue (.toggle 3) .fireOnce 2).slots[(8 : SlotNo)].repeats = some 2 :=
  ⟨nextAhead_witness, by decide +kernel, by decide +kernel, by decide +kernel, by decide +kernel, by decide +kernel, by decide +kernel⟩

theorem witness_RequestsDriveOrAreBlocked :
    let r : EdgeRequest := { line := 15, drive := .inverse, handle := ⟨8, 1⟩, tick := 1000 }
    let s (mode : Lines) (st : SchedState) : State :=
      let p := part st 1000
      { p with out := { p.out with mode := mode }, flight := { p.flight with edges := [r], restores := [r] } }
    ((s 0x8000 .running).flight.edges = r :: [] ∧ (s 0x8000 .running).flight.restores = r :: [] ∧
        (s 0x8000 .running).out.mode.getLsbD r.line.val = true ∧ (s 0x8000 .running).out.safeHold = false) ∧
      (s 0x7FFF .running).out.mode.getLsbD r.line.val = false ∧ (s 0x8000 .halted).out.safeHold = true := by decide +kernel

theorem witness_LineWritesDriveTheLinesTheyShould :
    running.sched.hold = none ∧ halted.sched.hold = none ∧ halted.out.safeHold = true ∧ held.sched.hold.isSome = true := by decide +kernel

theorem witness_FilterAcceptsAfterItsLength :
    let l : CapLine := { CapLine.reset false with filterLength := 2 }
    l.filter = .idle ∧ ([1, 2] : List Tick).length = l.filterLength ∧ ([1] : List Tick).length < l.filterLength := by decide

/-- Lines 2 and 5 see a rise: line 2 counts it and releases its list, line 5 counts falls alone. -/
def twoEdges : State :=
  let line : CapLine := { CapLine.reset false with select := .both, logEnable := true, gateOpen := true, oneShot := true }
  { running with
    cap := { running.cap with lines := (running.cap.lines.set 2 line).set 5 { line with select := .fall } }
    flight := { running.flight with ticks := [⟨1000, 0x24⟩] } }

theorem witness_CountedEdgeIsLoggedAndReleases :
    twoEdges.PlacesAgree ∧ twoEdges.flight.ticks = ⟨1000, 0x24⟩ :: [] ∧
      (twoEdges.cap.lines[(2 : CapNo)].sample 1000 true).2 = some 1000 ∧ twoEdges.cap.parks[(2 : CapNo)] = [1] ∧
      (let quiet : State := { twoEdges with flight := { twoEdges.flight with ticks := [⟨1000, 0⟩] } }
       quiet.flight.ticks = ⟨1000, 0⟩ :: [] ∧
        ∀ c : CapNo, (quiet.cap.lines[c].sample 1000 ((0 : Byte).getLsbD c.val)).2 = none) := by decide +kernel

/-- R86, R87: the edge that is not counted sets its level, and logs and releases nothing. -/
theorem test_uncounted_edge :
    let t := after .edgeAccepted twoEdges
    t.cap.lines[(5 : CapNo)].accepted = true ∧ t.cap.lines[(5 : CapNo)].gateOpen = true ∧ t.cap.log.map (·.line) = [2] ∧
      t.slots[(1 : SlotNo)].isQueued = true := by decide +kernel

theorem witness_CaptureAndOutputTakeTheirHandOffs :
    let g : GateRequest := { line := 7, opens := true }
    let away : CapLine := { CapLine.reset false with filterLength := 2, filter := .running 990 1 }
    let s : State := { running with
      cap := { running.cap with lines := running.cap.lines.set 7 away }
      flight := { running.flight with gates := [g], jumps := [5000], markClears := 0 + 1 } }
    let apart : State := { running with cap := { running.cap with parks := Vector.replicate 8 [] } }
    s.flight.gates = g :: [] ∧ s.flight.jumps = 5000 :: [] ∧ s.flight.markClears = 0 + 1 ∧
      s.cap.lines[(7 : CapNo)].filter = .running 990 1 ∧ s.cap.lines[(0 : CapNo)].filter = .idle ∧
      (s.slots[(1 : SlotNo)].place = .parked ∧ s.slots[(1 : SlotNo)].record.start.parkLine = some 2 ∧ (1 : SlotNo) ∈ s.cap.parks[(2 : CapNo)]) ∧
      (1 : SlotNo) ∉ apart.cap.parks[(2 : CapNo)] := by decide +kernel

theorem witness_CapSetupLoadsOrReadsALine :
    let s (b : List Byte) : Bytes16 := (accept 0x28 b running).engine.snapshot
    (accept 0x28 [7] running).accepted 0x28 ∧ 7 < (s [8])[0].toNat ∧ ((s [7, 0, 0, 0, 0, 0, 2])[0].toNat ≤ 7 ∧ 1 < (s [7, 0, 0, 0, 0, 0, 2])[6].toNat) ∧
      ((s [7, 9, 0, 0, 0, 0, 1])[0].toNat = 7 ∧ (s [7, 9, 0, 0, 0, 0, 1])[6] = 1) ∧
      ((s [7, 4])[6] = 0 ∧ 3 < (s [7, 4])[1].toNat) ∧ 15 < (s [7, 3, 16])[2].toNat ∧ 1 < (s [7, 3, 15, 2])[3].toNat ∧
      1 < (s [7, 3, 15, 1, 2])[4].toNat ∧ 1 < (s [7, 3, 15, 1, 1, 2])[5].toNat ∧
      ((s [7, 3, 15, 1, 1, 1])[5].toNat ≤ 1 ∧ (s [7, 3, 15, 1, 1, 1])[2].toNat ≤ 15 ∧ (s [7, 3, 15, 1, 1, 1])[1].toNat ≤ 3) := by
  decide +kernel

/-- An entry of frame 7. -/
def entry : SendEntry := { frame := 7, handle := ⟨8, 1⟩, notify := .atEnd, tick := 1000 }

/-- Frame 7 with these bytes, this many entries queued, a shifter, and a send request on its way. -/
def serial (bytes : List Byte) (queued : Nat) (hold : Bool) (sh : Option Shift) : State :=
  let s := part .running 1000
  { s with
    chan := { s.chan with
      frames := s.chan.frames.set 7 { bytes := bytes, lock := queued }
      queue := List.replicate queued entry
      haltHold := hold
      shifter := sh }
    flight := { s.flight with sends := [entry], frameCtl := [.halt] } }

theorem witness_SendRequestIsJudgedInOrder :
    (serial [] 0 true none).flight.sends = entry :: [] ∧ (serial [] 0 true none).chan.frames[entry.frame].bytes = [] ∧
      ((serial [1] 0 true none).chan.frames[entry.frame].bytes ≠ [] ∧ (serial [1] 0 true none).chan.haltHold = true) ∧
      ((serial [1] 8 false none).chan.haltHold = false ∧ 8 ≤ (serial [1] 8 false none).chan.queue.length) ∧
      ((serial [1] 7 false none).chan.haltHold = false ∧ (serial [1] 7 false none).chan.queue.length < 8) := by decide +kernel

theorem witness_HaltRequestFlushesTheChannel :
    let s := serial [1] 2 false (some (Shift.begin entry))
    s.flight.frameCtl = .halt :: [] ∧ s.pending = [] ∧ { s.flight with frameCtl := [.finish] }.frameCtl = .finish :: [] := by decide +kernel

theorem witness_ShifterTakesAndEndsFrames :
    let out : Shift := { Shift.begin entry with phase := .leadOut, secondHalf := true }
    let gap : Shift := { Shift.begin entry with phase := .gap, bit := 1, secondHalf := true }
    ((serial [1] 1 false none).chan.shifter = none ∧ (serial [1] 1 false none).chan.queue = entry :: [] ∧
        (let s := serial [1] 1 false none
         ({ s with flight := { s.flight with frameCtl := [] } } : State).pending = [])) ∧
      ((serial [1] 1 false (some out)).chan.shifter = some out ∧ out.phase = .leadOut ∧ out.secondHalf = true ∧ out.aborting = false) ∧
      { out with aborting := true }.aborting = true ∧
      ((serial [1] 1 false (some gap)).chan.shifter = some gap ∧ gap.phase = .gap ∧ gap.secondHalf = true ∧ 1 ≤ gap.bit) ∧
      (serial [1] 0 false (some gap)).chan.queue = [] := by decide +kernel

/-- R120: an entry that waits with a halt request is flushed on an idle run, and no frame begins. -/
theorem test_idle_flushes_first :
    let t := stepped (serial [1] 1 false none)
    t.chan.shifter = none ∧ t.chan.queue = [] ∧ t.chan.haltHold = true := by decide +kernel

theorem witness_FrameGoesOutBitByBit :
    let s := serial [0xA5, 0x3C] 0 false (some (Shift.begin entry))
    s.chan.shifter = some { aborting := false, entry := entry, phase := .leadIn, bit := 0, secondHalf := false, bytesSent := 0 } ∧
      s.chan.frames[entry.frame].bytes ≠ [] ∧ s.chan.frames[entry.frame].bytes[1]? = some 0x3C ∧ 7 < 8 := by decide +kernel

theorem witness_FrameGoesOutBitByBit_cut :
    let shift (aborting : Bool) (phase : FramePhase) (bit : Nat) (second : Bool) (sent : Nat) : Shift :=
      { aborting := aborting, entry := entry, phase := phase, bit := bit, secondHalf := second, bytesSent := sent }
    let s (sh : Shift) : State := serial [0xA5, 0x3C] 0 true (some sh)
    (s (shift true .leadIn 0 true 0)).chan.shifter = some (shift true .leadIn 0 true 0) ∧
      ((s (shift true .data 7 true 1)).chan.shifter = some (shift true .data 7 true 1) ∧ 2 * 7 + 1 + 1 = 16 ∧ 2 * 7 + 1 + 2 = 17) ∧
      ((s (shift true .data 7 false 0)).chan.shifter = some (shift true .data 7 false 0) ∧ 2 * 7 + 0 + 1 < 16) ∧
      (s (shift false .gap 0 false 2)).chan.shifter = some (shift false .gap 0 false 2) := by decide +kernel

theorem witness_LoadFrameIsJudgedInOrder :
    let s (b : List Byte) (lock : Nat) : State := accept 0x20 b (serial [1] lock false none)
    ((s [8] 0).accepted 0x20 ∧ 7 < (s [8] 0).engine.snapshot[0].toNat) ∧
      ((s [7, 13] 0).engine.snapshot[0].toNat = (7 : FrameNo).val ∧ 12 < (s [7, 13] 0).engine.snapshot[1].toNat) ∧
      ((s [7, 12] 1).engine.snapshot[1].toNat ≤ 12 ∧ (s [7, 12] 1).chan.frames[(7 : FrameNo)].lock ≠ 0) ∧
      (s [7, 12] 0).chan.frames[(7 : FrameNo)].lock = 0 := by decide +kernel

theorem witness_SerialSetUpIsWrittenWhileIdle :
    ((serial [1] 0 false none).chan.shifter = none ∧ (serial [1] 0 false none).chan.queue = [] ∧ (serial [1] 0 false none).sched.hold = none) ∧
      (serial [1] 0 false (some (Shift.begin entry))).chan.shifter ≠ none ∧ (serial [1] 1 false none).chan.queue ≠ [] ∧
      held.sched.hold.isSome = true := by decide +kernel

/-- RECOVERING with START in progress and an OVERDUE slot. -/
def draining : State := put 6 (.overdue 900) (oneShot (.signal false)) (part .recovering 1000)

theorem witness_HaltEventsAreTaken :
    running.PlacesAgree ∧ running.sched.hold = none ∧ running.sched.haltSeen = false ∧ running.sched.state ≠ .halted ∧
      running.engine.state ≠ .draining ∧ running.slots[(5 : SlotNo)].isTrail = true ∧ running.slots[(5 : SlotNo)].record.period = none ∧
      running.slots[(5 : SlotNo)].record.action = .pulse 3 true 11 true := by decide +kernel

/-- The lead due 990 of slot 5 in `running` with a period of 12, at TICK 1000. -/
theorem witness_HaltEventsAreTaken_periodic :
    let r (q : Nat) : Record := { oneShot (.pulse 3 true 11 true) with period := some 12, repeatsPosted := some q }
    let s (q : Nat) : State := put 5 (.queued 1001 (.trail 990 false)) (r q) (everyPlace .running)
    NextAhead 990 1000 12 1 ∧ (s 2).PlacesAgree ∧ (s 2).InOrder ∧ (s 2).ShortOfWrap ∧ (s 2).sched.hold = none ∧ (s 2).sched.haltSeen = false ∧
      (s 2).slots[(5 : SlotNo)].place = .queued 1001 (.trail 990 false) ∧ (s 2).slots[(5 : SlotNo)].record.period = some 12 ∧
      (∀ q ∈ (s 2).slots[(5 : SlotNo)].repeats, 1 + 1 ≤ q) ∧ (s 1).slots[(5 : SlotNo)].repeats = some 1 :=
  ⟨⟨by decide, by decide, fun j h1 h2 => by omega⟩, by decide +kernel⟩

theorem witness_HaltEventsAreTaken_in_the_drain :
    draining.PlacesAgree ∧ draining.sched.hold = none ∧ draining.sched.haltSeen = false ∧ draining.engine.state = .draining ∧
      draining.sched.state = .recovering := by decide +kernel

theorem witness_HaltEventsAreTaken_otherwise :
    let seen (s : State) : State := { s with sched := { s.sched with haltSeen := true } }
    (halted.sched.hold = none ∧ halted.sched.haltSeen = false ∧ halted.sched.state = .halted) ∧
      ((seen running).sched.hold = none ∧ (seen running).sched.haltSeen = true) ∧ held.sched.hold.isSome = true := by decide +kernel

theorem witness_ResetsSetEveryBlock :
    (accept 0x3F [] running).accepted 0x3F ∧ quietPins.haltAsserted = false ∧ haltPins.haltAsserted = true := by decide +kernel

theorem witness_ResetReleaseReadsThePins :
    running.sched.hold = none ∧ held.sched.hold.isSome = true ∧ quietPins.haltAsserted = false ∧ haltPins.haltAsserted = true ∧
      held.sched.state = .stopped ∧ held.fire.dueQueue = [] := by decide +kernel

theorem witness_StartAndStopByState :
    let a (s : State) : Prop := (accept 0x38 [] s).accepted 0x38
    (a (everyPlace .stopped) ∧ (everyPlace .stopped).sched.state = .stopped ∧ (everyPlace .stopped).fire.unit = .idle) ∧
      (a halted ∧ halted.sched.state = .halted ∧ halted.sched.haltSeen = false ∧ halted.fire.unit = .idle) ∧
      (after .haltAssertion halted).sched.haltSeen = true ∧ (a running ∧ running.sched.state = .running) ∧
      (accept 0x39 [] running).accepted 0x39 ∧ (accept 0x39 [] halted).accepted 0x39 ∧ halted.sched.state ≠ .running := by decide +kernel

theorem witness_ClearFreesEverySlot : halted.PlacesAgree ∧ (accept 0x3A [] halted).accepted 0x3A := by decide +kernel

theorem witness_CmdWriteIsAcceptedWhenReady :
    running.engine.state = .ready ∧ running.sched.hold = none ∧ WellFormed (.badCmd 0x14) = true ∧ held.sched.hold.isSome = true := by
  decide +kernel

theorem witness_BusyCmdWriteIsRefused :
    (accept 0x10 [] running).engine.state ≠ .ready ∧ (accept 0x10 [] running).sched.hold = none := by decide +kernel

theorem witness_CompletionPostsTheResult :
    (running.acted .ok [1]).engine.state = .acted .ok (windowOf [1]) := by decide +kernel

/-- Every slot HELD. -/
def full : State :=
  { part .running 1000 with slots := Vector.replicate 64 { Slot.freed 9 with place := .held .atEnd } }

theorem witness_PostAllocatesTheLowestFreeSlot :
    running.PlacesAgree ∧ (accept 0x10 pwmBytes running).accepted 0x10 ∧ recordFault (windowOf [6]) 1000 = some 1 ∧
      recordFault (windowOf pwmBytes) 1000 = none ∧
      (running.slots[(6 : SlotNo)].inUse = false ∧ ∀ m : SlotNo, m < 6 → running.slots[m].inUse = true) ∧
      (Layout.record (windowOf pwmBytes)).start = .absolute 1000 ∧ (Layout.record (windowOf [0x08, 0, 0, 5])).start = .relative 5 ∧
      (Layout.record (windowOf [0x10, 0x40, 0, 5])).start = .parked 0 5 true := by decide +kernel

theorem witness_PostAllocatesTheLowestFreeSlot_full :
    full.PlacesAgree ∧ ∀ n : SlotNo, full.slots[n].inUse = true := by decide +kernel

theorem witness_CancelFreesAndRestores :
    let s (b : List Byte) : State := accept 0x11 b running
    running.PlacesAgree ∧ (s [5, 1, 1]).accepted 0x11 ∧ (s [5, 2]).liveSlot 5 2 = none ∧ (s [5, 1]).liveSlot 5 1 = some 5 ∧
      1 < (s [5, 1, 2]).engine.snapshot[2].toNat ∧ (s [5, 1, 1]).engine.snapshot[2].toNat ≤ 1 ∧
      (accept 0x18 [1, 1] running).accepted 0x18 ∧ 1 < (accept 0x18 [1, 2] running).engine.snapshot[1].toNat ∧
      (accept 0x18 [1, 1] running).engine.snapshot[1].toNat ≤ 1 ∧ running.selected 1 = [0, 1, 2, 3, 4, 5] := by decide +kernel

theorem witness_AmendChangesWhatItNames :
    let s (b : List Byte) : State := accept 0x12 b running
    (s [0, 1]).accepted 0x12 ∧ (s [0, 9]).liveSlot 0 9 = none ∧ (s [0, 1]).liveSlot 0 1 = some 0 ∧
      3 < (s [0, 1, 4]).engine.snapshot[2].toNat ∧ (s [0, 1, 3]).engine.snapshot[2].toNat ≤ 3 ∧
      1 < (s [0, 1, 0, 0, 0, 0, 0, 0, 0, 0, 0, 0, 0, 0, 2]).engine.snapshot[14].toNat ∧
      (s [0, 1]).engine.snapshot[14].toNat ≤ 1 ∧ running.slots[(5 : SlotNo)].isTrail = true ∧
      running.slots[(0 : SlotNo)].record.start.parkLine = none ∧ running.slots[(1 : SlotNo)].record.start.parkLine ≠ none ∧
      (2 ^ 30 < distance (1001 + 2 ^ 30) running.time.tick ∧ distance (1000 + 2 ^ 30) running.time.tick ≤ 2 ^ 30 ∧
        -2 ^ 30 ≤ distance (1000 + 2 ^ 30) running.time.tick) ∧
      (running.slots[(0 : SlotNo)].record.action.isPulse = false ∧ (s [0, 1, 0, 0, 0, 0, 0, 0, 0, 0, 5, 0, 0, 0, 1]).engine.snapshot[14] = 1 ∧
        (s [0, 1, 0, 0, 0, 0, 0, 0, 0, 0, 5, 0, 0, 0, 1]).engine.snapshot[10].toNat ≠ 0) ∧
      running.slots[(0 : SlotNo)].place = .queued 1000 .lead ∧ running.slots[(3 : SlotNo)].place = .held (.queue 5) ∧
      running.slots[(1 : SlotNo)].place = .parked := by decide +kernel

/-- R153: of two failed record checks the first is reported: 7 (repeats without a period) before 9 (a due too far ahead). -/
theorem test_amend_reports_the_first_failed_check :
    result 1 (after (.amend .action) (accept 0x12 [0, 1, 1, 0, 0, 0, 0x41, 0, 0, 0, 5, 0, 0, 0, 1] running)) = (3, [7]) ∧
      result 1 (after (.amend .action) (accept 0x12 [0, 1, 1, 0, 0, 0, 0x41, 9, 0, 0, 5, 0, 0, 0, 1] running)) = (3, [9]) := by decide +kernel

theorem witness_GroupsAreSuspendedAndResumed :
    running.PlacesAgree ∧ (accept 0x19 [1] running).accepted 0x19 ∧ (accept 0x1A [1] running).accepted 0x1A ∧
      running.selected 1 = [0, 1, 2, 3, 4, 5] := by decide +kernel

theorem witness_ReadsReportTheSlotsAsTheyStand :
    let s (b : List Byte) : State := accept 0x13 b running
    running.PlacesAgree ∧ (s [5, 1]).accepted 0x13 ∧ (s [64, 1]).liveSlot 64 1 = none ∧ (s [5, 1]).liveSlot 5 1 = some 5 ∧
      1 < (s [5, 1, 2]).engine.snapshot[2].toNat ∧ (s [5, 1]).engine.snapshot[2] = 0 ∧ (s [5, 1, 1]).engine.snapshot[2] = 1 ∧
      running.slots[(5 : SlotNo)].record.Fits ∧ (accept 0x1F [] running).accepted 0x1F := by decide +kernel

/-- R21, R147: slot 5 carries tag 1 and is of group 0. -/
theorem test_liveSlot_and_selected :
    running.liveSlot 5 1 = some 5 ∧ running.liveSlot 5 2 = none ∧ running.liveSlot 63 0 = none ∧ running.liveSlot 69 1 = none ∧
      running.selected 0xFE = [] := by decide +kernel

theorem witness_RegisterWritesReachTheirLocation :
    (running.sched.hold = none ∧ running.engine.state = .ready ∧ WellFormed (.badCmd 0x21) = true ∧ (0x10, .post .write) ∈ commandWrites) ∧
      held.sched.hold.isSome = true ∧ 0x30 ≤ (0x30 : BitVec 7).toNat ∧ 0x50 ≤ (0x50 : BitVec 7).toNat ∧
      (Strobes.write.cs = true ∧ Strobes.write.rd = false ∧ Strobes.write.wr = true) ∧
      (Strobes.read.cs = true ∧ Strobes.read.rd = true ∧ Strobes.read.wr = false) ∧ ({ Strobes.read with wr := true } : Strobes).rd = true := by
  decide +kernel

theorem witness_HandOffIsStoredWhole :
    let n (k : NoticeKind) : Notice := { kind := k, handle := none, time := 0, detail := 0 }
    let frame : NoticeBatch := ⟨.frame, [n .sendAborted], 0, false⟩
    let sent : NoticeBatch := ⟨.frame, [n .sent], 0, false⟩
    let sync : NoticeBatch := ⟨.timeBase, [n .synced], 0, false⟩
    let halt : NoticeBatch := ⟨.scheduler, [n .haltEntered, n .aborted], 0, false⟩
    let fired : NoticeBatch := ⟨.firing, [n .fired], 0, false⟩
    let told (l : List NoticeBatch) : State := { running with flight := { running.flight with notices := l } }
    ((told [sync, halt]).flight.notices = [sync] ++ halt :: [] ∧ (∀ x ∈ [sync], x.source ≠ .scheduler ∧ x.source ≠ .firing)) ∧
      ((told [halt, sent]).flight.notices = [halt] ++ sent :: [] ∧ ¬ ∃ m ∈ sent.notices, m.kind = .sendAborted) ∧
      ((told [halt, frame]).flight.notices = [halt] ++ frame :: [] ∧ (∃ m ∈ frame.notices, m.kind = .sendAborted) ∧
        frame.unmet < ([halt].filter fun x => x.notices.any fun m => decide (m.kind = .haltEntered ∧ m.detail ≠ 2)).length) ∧
      ((told [{ halt with first := true }, sync]).flight.notices = [{ halt with first := true }] ++ sync :: [] ∧
        ∃ x ∈ [{ halt with first := true }], x.first = true) ∧
      ((told [sync, fired]).flight.notices = [sync] ++ fired :: [] ∧ (told [fired, sync]).flight.notices = [fired] ++ sync :: []) := by
  decide +kernel

/-- R165, R68, R130: HALT_ENTERED may be stored before an earlier SYNCED, but no firing before it; SENT before HALT_ENTERED, but
SEND_ABORTED only when it was raised before the halt request was taken. -/
theorem test_noticeHandoff_orders :
    let n (k : NoticeKind) : Notice := { kind := k, handle := none, time := 0, detail := 0 }
    let s : State := { running with flight := { running.flight with
      notices := [⟨.timeBase, [n .synced], 0, false⟩, ⟨.scheduler, [n .haltEntered], 0, false⟩, ⟨.firing, [n .fired], 0, false⟩,
        ⟨.frame, [n .sent], 0, false⟩] } }
    let stored (source : NoticeSource) (s : State) : List NoticeKind := (after (.noticeHandoff source) s).notes.queue.map (·.notice.kind)
    stored .scheduler s = [.haltEntered] ∧ stored .firing s = [] ∧ stored .frame s = [.sent] ∧
      stored .frame { s with flight := { s.flight with
        notices := [⟨.scheduler, [n .haltEntered], 0, false⟩, ⟨.frame, [n .sendAborted], 0, false⟩] } } = [] ∧
      stored .frame { s with flight := { s.flight with
        notices := [⟨.scheduler, [n .haltEntered], 0, false⟩, ⟨.frame, [n .sendAborted], 1, false⟩] } } = [.sendAborted] := by decide +kernel

/-- R140, R176: after a release into HALTED no other notice is stored before HALT_ENTERED. -/
theorem test_release_tells_first :
    let released := after (.resetRelease haltPins) held
    let s : State := { released with flight := { released.flight with notices := released.flight.notices ++
      [⟨.timeBase, [{ kind := .synced, handle := none, time := 0, detail := 0 }], 0, false⟩] } }
    let stored (s : State) : List NoticeKind := s.notes.queue.map (·.notice.kind)
    stored (after (.noticeHandoff .timeBase) s) = [] ∧
      stored (after (.noticeHandoff .timeBase) (after (.noticeHandoff .scheduler) s)) = [.haltEntered, .synced] := by decide +kernel

theorem witness_CountsAndThresholdsAreWritten :
    let e : NoticeEntry := { notice := { kind := .synced, handle := none, time := 0, detail := 0 }, gap := false }
    let l : LogEntry := { line := 0, rise := true, timestamp := 0, gap := false }
    let s : State := { running with notes := { running.notes with queue := [e] }, cap := { running.cap with log := [l] } }
    s.sched.hold = none ∧ s.notes.queue = e :: [] ∧ s.cap.log = l :: [] ∧ running.notes.queue = [] ∧ running.cap.log = [] ∧
      (1 ≤ (1 : Byte).toNat ∧ (16 : Byte).toNat ≤ 16 ∧ (32 : Byte).toNat ≤ 32) ∧ held.sched.hold.isSome = true := by decide +kernel

/-- R184: the head of the capture log, a falling edge of line 5 with a gap mark, at the addresses of CHD. -/
theorem test_log_head :
    let s : State := { running with cap := { running.cap with log := [{ line := 5, rise := false, timestamp := 0x01020304, gap := true }] } }
    ([0x48, 0x49, 0x4A, 0x4B, 0x4C, 0x4D, 0x4E, 0x4F] : List (BitVec 7)).map s.busRead = [5, 0x82, 4, 3, 2, 1, 0, 0] := by decide +kernel

theorem witness_FlagsAreSetClearedAndShown :
    let s : State := { running with flight := { running.flight with flags := [.serialIdle], wakes := 0 + 1 } }
    .serialIdle ∈ s.flight.flags ∧ s.sched.hold = none ∧ s.flight.wakes = 0 + 1 ∧ s.notes.sticky &&& 0x0C = 0 ∧
      held.sched.hold.isSome = true := by decide +kernel

end Sys2Proof.Tests
end

/-! What the two parts of the time base that the host sets up by writes do: ARM_SYNC (R13) and TCFG (R2), and how the register window shows them. -/

namespace Sys2Proof.Machine

open Sys2Proof

/-! ### Reads of STAT and TCFG -/

theorem busRead_stat (s : State) : s.busRead 0x02 = s.stat := rfl

theorem busRead_tcfg (s : State) : s.busRead 0x0C = byteOf s.time.psel := rfl

theorem schedState_code_lt (st : SchedState) : st.code < 4 := by
  cases st <;> decide

/-- The scheduler state takes bits 0 and 1 of STAT alone (R180). -/
theorem schedState_code_getLsbD_eq_false (st : SchedState) {i : Nat} (hi : 2 ≤ i) : (byteOf st.code).getLsbD i = false := by
  have hcode : st.code < 2 ^ i :=
    calc st.code < 2 ^ 2 := schedState_code_lt st
      _ ≤ 2 ^ i := Nat.pow_le_pow_right (by decide) hi
  simp [byteOf, BitVec.getLsbD_ofNat, Nat.testBit_lt_two_pow hcode]

/-- Bit 4 of STAT is the arm flag (R180): no other part of STAT reaches it. -/
theorem stat_getLsbD_four (s : State) : s.stat.getLsbD 4 = s.time.armed := by
  have hcode := schedState_code_getLsbD_eq_false s.sched.state (i := 4) (by decide)
  simp only [State.stat, BitVec.getLsbD_or, hcode, apply_ite (BitVec.getLsbD · 4)]
  simp

/-! ### ARM_SYNC (R13) -/

/-- An accepted ARM_SYNC takes its action step. -/
theorem exec_armSync_of_accepted {s : State} (h : s.accepted 0x31) : exec (.armSync .action) s = .next (armSyncAction s) :=
  congrArg Host.Outcome.next (if_pos ((awaits_iff 0x31 s).2 h))

theorem armSyncAction_of_one {s : State} (h : s.engine.snapshot[0] = 1) :
    armSyncAction s = { s with
      time := { s.time with
        armed := true
        syncVal := le32 s.engine.snapshot[1] s.engine.snapshot[2] s.engine.snapshot[3] s.engine.snapshot[4] }
      engine := s.engine.withResult .ok (flagByte s.time.armed :: bytes32 s.time.syncVal) } :=
  if_pos h

theorem armSyncAction_of_zero {s : State} (h : s.engine.snapshot[0] = 0) :
    armSyncAction s = { s with
      time := { s.time with armed := false }
      engine := s.engine.withResult .ok (flagByte s.time.armed :: bytes32 s.time.syncVal) } := by
  have hne : s.engine.snapshot[0] ≠ 1 := by simp [h]
  exact (if_neg hne).trans (if_pos h)

theorem armSyncAction_of_other {s : State} (h0 : s.engine.snapshot[0] ≠ 0) (h1 : s.engine.snapshot[0] ≠ 1) :
    armSyncAction s = { s with engine := s.engine.withResult .badArg [] } :=
  (if_neg h1).trans (if_neg h0)

/-- Settles O21: one equation of the action step for each form of the request, and bit 4 of STAT. -/
theorem armSyncSetsTheArmFlag : Obligations.ArmSyncSetsTheArmFlag := by
  intro s hs
  rw [exec_armSync_of_accepted hs]
  refine ⟨fun h1 => ?request_one, fun h0 => ?request_zero, fun h0 h1 => ?request_other, ?stat⟩
  case request_one => exact congrArg Host.Outcome.next (armSyncAction_of_one h1)
  case request_zero => exact congrArg Host.Outcome.next (armSyncAction_of_zero h0)
  case request_other => exact congrArg Host.Outcome.next (armSyncAction_of_other h0 h1)
  case stat => rw [busRead_stat, stat_getLsbD_four]

/-! ### TCFG (R2) -/

theorem exec_tcfgWrite (value : Byte) (s : State) : exec (.tcfgWrite value) s = .next (s.writeTcfg value) := rfl

/-- The writes to TCFG that R2 accepts: a number from 4 to 12, while STOPPED and not held in reset (R139). -/
def State.acceptsTcfg (value : Byte) (s : State) : Prop :=
  s.sched.hold = none ∧ s.sched.state = .stopped ∧ 4 ≤ value.toNat ∧ value.toNat ≤ 12

theorem writeTcfg_of_accepts {value : Byte} {s : State} (h : s.acceptsTcfg value) :
    s.writeTcfg value = { s with time := { s.time with psel := value.toNat, divider := 0 } } := by
  obtain ⟨hhold, hstate, hmin, hmax⟩ := h
  simp [State.writeTcfg, Config.pselMin, Config.pselMax, hhold, hstate, hmin, hmax]

theorem writeTcfg_of_not_accepts {value : Byte} {s : State} (h : ¬ s.acceptsTcfg value) : s.writeTcfg value = s := by
  unfold State.writeTcfg
  split
  case isTrue => rfl
  case isFalse hhold =>
    refine if_neg fun hload => h ?_
    simp only [Bool.and_eq_true, beq_iff_eq, decide_eq_true_eq] at hload
    obtain ⟨⟨hstate, hmin⟩, hmax⟩ := hload
    exact ⟨by simpa using hhold, hstate, hmin, hmax⟩

/-- Settles O23: a write is accepted or changes nothing, and each of the four grounds of R2 and R139 keeps it from being accepted. -/
theorem tcfgWriteLoadsPselInStopped : Obligations.TcfgWriteLoadsPselInStopped := by
  intro s v
  rw [exec_tcfgWrite]
  refine ⟨fun hhold hstate hmin hmax => ?loaded, fun hground => ?ignored, busRead_tcfg s⟩
  case loaded => rw [writeTcfg_of_accepts ⟨hhold, hstate, hmin, hmax⟩]
  case ignored =>
    have hnot : ¬ s.acceptsTcfg v := by
      rintro ⟨hhold, hstate, hmin, hmax⟩
      rcases hground with hheld | hrun | hlow | hhigh
      · simp [hhold] at hheld
      · exact hrun hstate
      · omega
      · omega
    rw [writeTcfg_of_not_accepts hnot]

end Sys2Proof.Machine
